-- ==== Sys2Proof/Word.lean ====
section
/-! DEFINITION. The word types of the engine (00_scope.md R7, R8; 30_encoding.md R70): every value is unsigned. -/

namespace Sys2Proof

/-- One command word of the host's command port (30_encoding.md R70). -/
abbrev Word := BitVec 32

/-- One byte: a byte operand, a byte on the bus, a byte of a transport call. -/
abbrev Byte := BitVec 8

/-- A 16-bit value: `GPIO_WIDTH`, `DIV_WIDTH` and the CRC accumulator are 16 bits (00_scope.md R7, 10_state.md R30, R35). -/
abbrev Half := BitVec 16

/-- The index of one of the 16 pins (10_state.md R22, R23). -/
abbrev Pin := BitVec 4

end Sys2Proof
end

