-- ==== Sys2Proof/Config.lean ====
section
/-! DEFINITION. What is fixed for one engine (the parameters of 00_scope.md R7), the transport's answer kinds
(20_memory.md R52, R53), and the free values: opaque constants that nothing can evaluate. -/

namespace Sys2Proof

/-- The two timing modes: 0 = STD, 1 = OD (10_state.md R25). -/
inductive Mode where
  | std
  | od
  deriving DecidableEq, Repr, Inhabited

/-- The eleven named delays of a delay profile (30_encoding.md R85). -/
inductive Interval where
  | a | b | c | d | e | f | g | h | i | j | z
  deriving DecidableEq, Repr, Inhabited

/-- One table of interval lengths, in nanoseconds (40_timing.md R101).
The length of Z is `OPEN` in the spec: `none` is the unset parameter (93_implementation_defined.md I6; log entry 5). -/
structure IntervalTable where
  a : Nat
  b : Nat
  c : Nat
  d : Nat
  e : Nat
  f : Nat
  g : Nat
  h : Nat
  i : Nat
  j : Nat
  z : Option Nat
  deriving DecidableEq, Repr

/-- `DIVISOR_ARITH` (00_scope.md R7): exact rational arithmetic (40_timing.md R100) or binary64 (40_timing.md R109). -/
inductive DivisorArith where
  | exact
  | ieee
  deriving DecidableEq, Repr

/-- The parameters the model takes as arguments (00_scope.md R7; 93_implementation_defined.md I6, I9, I21, I22).
`DATA_PIN`, `PULLUP_PIN` and `OD_SUPPORTED` are the arguments of INIT; the encodings that are `OPEN` stand below. -/
structure Params where
  /-- `GPIO_WIDTH`: the pins 0 to `gpioWidth - 1` exist (log entry 18). -/
  gpioWidth : Nat
  /-- `DIV_WIDTH`: a divisor is taken modulo 2 to this power (log entry 18). -/
  divWidth : Nat
  /-- `BASE_CLOCK_HZ`. -/
  baseClockHz : Nat
  /-- `DIVISOR_ARITH`. -/
  divisorArith : DivisorArith
  /-- `T_STD`, with `Z_STD_NS`. -/
  tStd : IntervalTable
  /-- `T_OD`, with `Z_OD_NS`. -/
  tOd : IntervalTable
  /-- `SEARCH_CMD`. -/
  searchCmd : Byte
  /-- `ROM_BITS`: the levels of one search pass. -/
  romBits : Nat
  /-- `READ_TIMEOUT`, in seconds. -/
  readTimeout : Nat
  /-- `BATCH_CAPACITY`, in line elements; `none` is unbounded. -/
  batchCapacity : Option Nat
  /-- `RESULT_CAPACITY`, in ROM codes; `none` is unbounded. -/
  resultCapacity : Option Nat
  deriving DecidableEq, Repr

/-- The answer to `Setup` or to one `TxWrite` (20_memory.md R52, 70_reset_and_hazards.md R251). -/
inductive WriteAnswer where
  | ok
  | usbErr
  deriving DecidableEq, Repr, Inhabited

/-- Which of the three kinds of answer one `TxRead` gets (20_memory.md R53); the bits of a `Bits` answer are drawn
from the sample stream, so that they are exactly as many as were asked for. -/
inductive ReadKind where
  | bits
  | timeout
  | usbErr
  deriving DecidableEq, Repr, Inhabited

/-- FREE VALUE (log entry 2). The answer to a write or `Setup` for which the environment scripted none. -/
opaque Config.freeWrite : Nat → WriteAnswer

/-- FREE VALUE (log entry 2). The kind of answer to a read for which the environment scripted none. -/
opaque Config.freeRead : Nat → ReadKind

/-- FREE VALUE (log entry 2). The data pin's level at a SAMPLE for which the environment scripted none. -/
opaque Config.freeSample : Nat → Bool

/-- `ENC_GPIO` (20_memory.md R56): `OPEN`, so uninterpreted (log entry 6). -/
opaque Config.encGpio : Half → Half → List Byte

/-- `ENC_SAMPLE` of the data pin (20_memory.md R56): `OPEN`, so uninterpreted (log entry 6). -/
opaque Config.encSample : Pin → List Byte

/-- `WAIT_SUFFIX` (20_memory.md R56): `OPEN`, possibly empty, so uninterpreted (log entry 6). -/
opaque Config.waitSuffix : List Byte

/-- `SAMPLE_BYTES` (20_memory.md R53): `OPEN`, so uninterpreted (log entry 6). -/
opaque Config.sampleBytes : Nat

end Sys2Proof
end

