-- ==== Sys2Proof/Syntax.lean ====
section
/-! DEFINITION. The commands of the engine: one constructor per row of spec/opcode_table.json (30_encoding.md R77). -/

namespace Sys2Proof

/-- The CRC width select: 0 = CRC-8, 1 = CRC-16 (10_state.md R36). -/
inductive CrcWidth where
  | crc8
  | crc16
  deriving DecidableEq, Repr, Inhabited

/-- The six registers of the register view (10_state.md R38-R43). -/
inductive Reg where
  | config
  | mode
  | status
  | gpio
  | crc
  | batch
  deriving DecidableEq, Repr, Inhabited

/-- A command with its operand. TQ and RDREG carry the operand as the word has it: some of its values are illegal
(30_encoding.md R84), which `Instr.wellFormed` checks. -/
inductive Instr where
  /-- NOP, format N, OP 0x00 (40_timing.md R106). -/
  | nop
  /-- TQ, format T, OP 0x01: the interval index (40_timing.md R103). -/
  | tq (iv : BitVec 4)
  /-- TQN, format U, OP 0x02: a length in nanoseconds (40_timing.md R105). -/
  | tqn (u : BitVec 24)
  /-- MODE, format M, OP 0x03: the new timing mode (40_timing.md R104). -/
  | mode (m : Mode)
  /-- BEGIN, format N, OP 0x08 (41_batch.md R126). -/
  | beginBatch
  /-- FLUSH, format N, OP 0x09 (41_batch.md R127). -/
  | flush
  /-- RESET, format N, OP 0x10 (42_bitbyte.md R150). -/
  | reset
  /-- WBIT, format M, OP 0x11: the bit written (42_bitbyte.md R152). -/
  | wbit (b : Bool)
  /-- RBIT, format N, OP 0x12 (42_bitbyte.md R154). -/
  | rbit
  /-- WBYTE, format B, OP 0x13: the byte written (42_bitbyte.md R156). -/
  | wbyte (d : Byte)
  /-- RBYTE, format N, OP 0x14 (42_bitbyte.md R158). -/
  | rbyte
  /-- PULLUP, format U, OP 0x15: a duration in microseconds (42_bitbyte.md R160). -/
  | pullup (u : BitVec 24)
  /-- CRCI, format M, OP 0x20: the width select (43_crc.md R172). -/
  | crci (w : CrcWidth)
  /-- CRCB, format B, OP 0x21: the data byte (43_crc.md R174). -/
  | crcb (d : Byte)
  /-- CRCR, format N, OP 0x22 (43_crc.md R175). -/
  | crcr
  /-- CRCC, format N, OP 0x23 (43_crc.md R176). -/
  | crcc
  /-- SEARCH, format N, OP 0x30 (44_search.md R190). -/
  | search
  /-- RDREG, format R, OP 0x40: the register number (40_timing.md R107). -/
  | rdreg (r : BitVec 3)
  deriving DecidableEq, Repr

end Sys2Proof
end

