-- ==== Sys2Proof/WellFormed.lean ====
section
/-! DEFINITION. The operand value constraints of 30_encoding.md R84. -/

namespace Sys2Proof

/-- 30_encoding.md R84: `iv` of TQ is in 0..10, `r` of RDREG is in 0..5, and every other operand value is accepted. -/
def Instr.wellFormed : Instr → Bool
  | .tq iv => decide (iv.toNat ≤ 10)
  | .rdreg r => decide (r.toNat ≤ 5)
  | .nop => true
  | .tqn _ => true
  | .mode _ => true
  | .beginBatch => true
  | .flush => true
  | .reset => true
  | .wbit _ => true
  | .rbit => true
  | .wbyte _ => true
  | .rbyte => true
  | .pullup _ => true
  | .crci _ => true
  | .crcb _ => true
  | .crcr => true
  | .crcc => true
  | .search => true

end Sys2Proof
end

