-- ==== Sys2Proof/Decode.lean ====
section
/-! DEFINITION. The decoder (30_encoding.md R70-R79, R84), total over 32-bit words, and after it the encoder, written
from the format tables R71-R76 and the opcode map R77. -/

namespace Sys2Proof

/-- Why a word is illegal (30_encoding.md R79): an unassigned opcode, a nonzero must-be-0 bit, an operand out of range. -/
inductive DecodeError where
  | unassignedOpcode
  | mustBeZeroBit
  | operandRange
  deriving DecidableEq, Repr

/-- The six operand formats (30_encoding.md R71-R76). -/
inductive Format where
  | n | m | b | t | r | u
  deriving DecidableEq, Repr

/-- The mask of a format: its opcode and must-be-0 bits (30_encoding.md R77). -/
def Format.mask : Format → Word
  | .n => 0xFFFFFFFF#32
  | .m => 0xFFFFFFFE#32
  | .b => 0xFFFFFF00#32
  | .t => 0xFFFFFFF0#32
  | .r => 0xFFFFFFF8#32
  | .u => 0xFF000000#32

/-- `OP`, bits [31:24] of the word (30_encoding.md R70). -/
def opField (w : Word) : Byte := w.extractLsb' 24 8

/-- The one-bit operand of format M (30_encoding.md R72). -/
def mField (w : Word) : Bool := w.getLsbD 0

/-- The byte operand of format B (30_encoding.md R73). -/
def bField (w : Word) : Byte := w.extractLsb' 0 8

/-- The interval index of format T (30_encoding.md R74). -/
def tField (w : Word) : BitVec 4 := w.extractLsb' 0 4

/-- The register number of format R (30_encoding.md R75). -/
def rField (w : Word) : BitVec 3 := w.extractLsb' 0 3

/-- The 24-bit operand of format U (30_encoding.md R76). -/
def uField (w : Word) : BitVec 24 := w.extractLsb' 0 24

/-- MODE's operand: 0 STD, 1 OD (30_encoding.md R77). -/
def Mode.ofBit : Bool → Mode
  | false => .std
  | true => .od

/-- The bit that stands for a timing mode (10_state.md R25). -/
def Mode.toBit : Mode → Bool
  | .std => false
  | .od => true

/-- CRCI's operand: 0 CRC-8, 1 CRC-16 (30_encoding.md R77). -/
def CrcWidth.ofBit : Bool → CrcWidth
  | false => .crc8
  | true => .crc16

/-- The bit that stands for a CRC width (10_state.md R36). -/
def CrcWidth.toBit : CrcWidth → Bool
  | .crc8 => false
  | .crc16 => true

/-- One row of the opcode map: its format and the command a word of that row stands for. -/
structure OpcodeRow where
  op : Byte
  format : Format
  build : Word → Instr

/-- The opcode map of 30_encoding.md R77, in its order. -/
def opcodeRows : List OpcodeRow := [
  ⟨0x00#8, .n, fun _ => .nop⟩,
  ⟨0x01#8, .t, fun w => .tq (tField w)⟩,
  ⟨0x02#8, .u, fun w => .tqn (uField w)⟩,
  ⟨0x03#8, .m, fun w => .mode (Mode.ofBit (mField w))⟩,
  ⟨0x08#8, .n, fun _ => .beginBatch⟩,
  ⟨0x09#8, .n, fun _ => .flush⟩,
  ⟨0x10#8, .n, fun _ => .reset⟩,
  ⟨0x11#8, .m, fun w => .wbit (mField w)⟩,
  ⟨0x12#8, .n, fun _ => .rbit⟩,
  ⟨0x13#8, .b, fun w => .wbyte (bField w)⟩,
  ⟨0x14#8, .n, fun _ => .rbyte⟩,
  ⟨0x15#8, .u, fun w => .pullup (uField w)⟩,
  ⟨0x20#8, .m, fun w => .crci (CrcWidth.ofBit (mField w))⟩,
  ⟨0x21#8, .b, fun w => .crcb (bField w)⟩,
  ⟨0x22#8, .n, fun _ => .crcr⟩,
  ⟨0x23#8, .n, fun _ => .crcc⟩,
  ⟨0x30#8, .n, fun _ => .search⟩,
  ⟨0x40#8, .r, fun w => .rdreg (rField w)⟩]

/-- The row with a given opcode, or none. -/
def findRow (op : Byte) : List OpcodeRow → Option OpcodeRow
  | [] => none
  | row :: rows => if row.op = op then some row else findRow op rows

/-- The match value of a row: `OP << 24` with the operand bits zero (30_encoding.md R77). -/
def matchValue (op : Byte) : Word := op ++ 0#24

/-- The decode procedure of 30_encoding.md R78. -/
def decode (w : Word) : Except DecodeError Instr :=
  match findRow (opField w) opcodeRows with
  | none => .error .unassignedOpcode
  | some row =>
    if w &&& row.format.mask ≠ matchValue row.op then .error .mustBeZeroBit
    else if (row.build w).wellFormed then .ok (row.build w)
    else .error .operandRange

/-- The opcode of a command (30_encoding.md R77). -/
def Instr.opcode : Instr → Byte
  | .nop => 0x00#8
  | .tq _ => 0x01#8
  | .tqn _ => 0x02#8
  | .mode _ => 0x03#8
  | .beginBatch => 0x08#8
  | .flush => 0x09#8
  | .reset => 0x10#8
  | .wbit _ => 0x11#8
  | .rbit => 0x12#8
  | .wbyte _ => 0x13#8
  | .rbyte => 0x14#8
  | .pullup _ => 0x15#8
  | .crci _ => 0x20#8
  | .crcb _ => 0x21#8
  | .crcr => 0x22#8
  | .crcc => 0x23#8
  | .search => 0x30#8
  | .rdreg _ => 0x40#8

/-- The format of a command (30_encoding.md R77). -/
def Instr.format : Instr → Format
  | .nop | .beginBatch | .flush | .reset | .rbit | .rbyte | .crcr | .crcc | .search => .n
  | .mode _ | .wbit _ | .crci _ => .m
  | .wbyte _ | .crcb _ => .b
  | .tq _ => .t
  | .rdreg _ => .r
  | .tqn _ | .pullup _ => .u

/-- The operand field [23:0] of a command, with its must-be-0 bits zero (30_encoding.md R71-R76). -/
def Instr.operand : Instr → BitVec 24
  | .nop | .beginBatch | .flush | .reset | .rbit | .rbyte | .crcr | .crcc | .search => 0#24
  | .tq iv => 0#20 ++ iv
  | .tqn u => u
  | .mode m => 0#23 ++ BitVec.ofBool m.toBit
  | .wbit b => 0#23 ++ BitVec.ofBool b
  | .wbyte d => 0#16 ++ d
  | .pullup u => u
  | .crci w => 0#23 ++ BitVec.ofBool w.toBit
  | .crcb d => 0#16 ++ d
  | .rdreg r => 0#21 ++ r

/-- The encoder: the command word of a command (30_encoding.md R70). -/
def encode (i : Instr) : Word := i.opcode ++ i.operand

/-- The command the decoder reads from a word numbered as spec/opcode_table.json numbers it: every command is one
32-bit word (30_encoding.md R81), so a value that does not fit in 32 bits is no command. -/
def decodeTableWord (_nbits w : Nat) : Option Instr :=
  if w < 2 ^ 32 then
    match decode (BitVec.ofNat 32 w) with
    | .ok i => some i
    | .error _ => none
  else none

end Sys2Proof
end

