-- ==== Sys2Proof/Machine/Operands.lean ====
section
/-! DEFINITION. What the operands stand for and the functions of them that touch no state: bits and pins, interval
names and lengths, the divisor function, the clock-set command, register numbers. -/

namespace Sys2Proof.Machine

/-! ## Bits (00_scope.md R8) -/

/-- `v[i] <- b` on a GPIO word: bit i belongs to pin i (20_memory.md R61). -/
def setPin (v : Half) (i : Pin) (b : Bool) : Half :=
  if b then v ||| (1#16 <<< i.toNat) else v &&& ~~~(1#16 <<< i.toNat)

/-- The unsigned value of a list of bits whose first is bit 0 (20_memory.md R57). -/
def bitsToNat : List Bool → Nat
  | [] => 0
  | b :: bs => b.toNat + 2 * bitsToNat bs

/-- The bits d[0], …, d[7] of a byte in the order they go onto the bus: bit 0 first (20_memory.md R57). -/
def byteBits (d : Byte) : List Bool :=
  [d.getLsbD 0, d.getLsbD 1, d.getLsbD 2, d.getLsbD 3, d.getLsbD 4, d.getLsbD 5, d.getLsbD 6, d.getLsbD 7]

/-- Byte j of the packed ROM code: `sum over k of (cur[8j + k] << k)` (44_search.md R196; 90_conflicts.md C2). -/
def packByte (cur : List Bool) (j : Nat) : Byte :=
  BitVec.ofNat 8 (bitsToNat ((cur.drop (8 * j)).take 8))

/-- `pack(cur)`: the bytes of a ROM code, family code first: eight of them for 64 bits (20_memory.md R58, 44_search.md
R196). -/
def packCode (cur : List Bool) : List Byte := (List.range ((cur.length + 7) / 8)).map (packByte cur)

/-! ## Intervals and registers by number -/

/-- The interval of an index, by the order of 30_encoding.md R85; none for 11..15 (30_encoding.md R84). -/
def intervalOfIndex (iv : BitVec 4) : Option Interval :=
  match iv.toNat with
  | 0 => some .a
  | 1 => some .b
  | 2 => some .c
  | 3 => some .d
  | 4 => some .e
  | 5 => some .f
  | 6 => some .g
  | 7 => some .h
  | 8 => some .i
  | 9 => some .j
  | 10 => some .z
  | _ => none

/-- The register of a number (10_state.md R38-R43); none for 6 and 7 (10_state.md R44). -/
def regOfNumber (r : BitVec 3) : Option Reg :=
  match r.toNat with
  | 0 => some .config
  | 1 => some .mode
  | 2 => some .status
  | 3 => some .gpio
  | 4 => some .crc
  | 5 => some .batch
  | _ => none

/-- The length of an interval in a table, in nanoseconds; none for Z while its length is unset (40_timing.md R101). -/
def intervalLength (t : IntervalTable) : Interval → Option Nat
  | .a => some t.a
  | .b => some t.b
  | .c => some t.c
  | .d => some t.d
  | .e => some t.e
  | .f => some t.f
  | .g => some t.g
  | .h => some t.h
  | .i => some t.i
  | .j => some t.j
  | .z => t.z

/-- `T[m]`: T[0] = `T_STD`, T[1] = `T_OD` (40_timing.md R102). -/
def tableOf (p : Params) : Mode → IntervalTable
  | .std => p.tStd
  | .od => p.tOd

/-- `T[m][iv]`. -/
def lengthOf (p : Params) (m : Mode) (iv : Interval) : Option Nat :=
  intervalLength (tableOf p m) iv

/-! ## The divisor function -/

/-- 40_timing.md R100: `(ceil(BASE_CLOCK_HZ * ns / 2_000_000_000) - 1) mod 2^16`, and 0 for ns = 0. The width is the
parameter `DIV_WIDTH`, 16 on this hardware (00_scope.md R7). -/
def divExact (width baseHz ns : Nat) : Half :=
  if ns = 0 then 0#16
  else BitVec.ofNat 16 (((baseHz * ns + 1999999999) / 2000000000 - 1) % 2 ^ width)

/-- The numerator of `n / (d * 2^e)`. -/
def scaleNum (n : Nat) (e : Int) : Nat := if e ≤ 0 then n * 2 ^ (-e).toNat else n

/-- The denominator of `n / (d * 2^e)`. -/
def scaleDen (d : Nat) (e : Int) : Nat := if e ≤ 0 then d else d * 2 ^ e.toNat

/-- The quotient of two naturals rounded to the nearest integer, a tie to the even one. -/
def roundHalfEven (n d : Nat) : Nat :=
  if d < 2 * (n % d) ∨ (2 * (n % d) = d ∧ n / d % 2 = 1) then n / d + 1 else n / d

/-- The exponent of the last place of the binary64 number nearest to n/d: 53 significant bits. -/
def binary64Exponent (n d : Nat) : Int :=
  let k : Int := (Nat.log2 n : Int) - (Nat.log2 d : Int)
  if scaleNum n (k - 53) / scaleDen d (k - 53) < 2 ^ 53 then k - 53 else k - 52

/-- The binary64 number nearest to the fraction n/d, as a fraction (40_timing.md R109: rounded to nearest-even).
The exponent range is not bounded: no interval length comes near its ends (log entry 8). -/
def round64 (n d : Nat) : Nat × Nat :=
  if n = 0 then (0, 1)
  else
    let e := binary64Exponent n d
    let m := roundHalfEven (scaleNum n e) (scaleDen d e)
    if e ≤ 0 then (m, 2 ^ (-e).toNat) else (m * 2 ^ e.toNat, 1)

/-- `round64` of a fraction with a sign. -/
def round64Signed (n : Int) (d : Nat) : Int × Nat :=
  ((if n < 0 then -((round64 n.natAbs d).1 : Int) else ((round64 n.natAbs d).1 : Int)), (round64 n.natAbs d).2)

/-- The least integer that is at least n/d. -/
def ceilQuotient (n : Int) (d : Nat) : Int := -((-n) / (d : Int))

/-- 40_timing.md R109: the source's formula in binary64, with `s` the binary64 number nearest to ns / 10^9 seconds
(log entry 8). The width is as in `divExact`. -/
def divIeee (width baseHz ns : Nat) : Half :=
  if ns = 0 then 0#16
  else
    let s := round64 ns 1000000000
    let f := round64 (2 * s.2) s.1
    let base := round64 baseHz 1
    let x := round64Signed ((base.1 * f.2 : Nat) - (f.1 * base.2 : Nat) : Int) (base.2 * f.2)
    let y := round64Signed (x.1 * (f.2 : Int)) (x.2 * f.1)
    BitVec.ofInt 16 (ceilQuotient y.1 y.2 % 2 ^ width)

/-- `div(ns)` in the arithmetic that the parameter `DIVISOR_ARITH` selects (40_timing.md R100, R109). -/
def divisor (p : Params) (ns : Nat) : Half :=
  match p.divisorArith with
  | .exact => divExact p.divWidth p.baseClockHz ns
  | .ieee => divIeee p.divWidth p.baseClockHz ns

/-- `CLKSET(div)`: `[0x86, div[7:0], div[15:8]]` (30_encoding.md R90, 20_memory.md R60). -/
def clkset (d : Half) : List Byte := [0x86#8, d.extractLsb' 0 8, d.extractLsb' 8 8]

/-! ## The parameters of this hardware -/

/-- `T_STD` (40_timing.md R101); the length of Z is unset. -/
def stdTable : IntervalTable where
  a := 6000
  b := 64000
  c := 60000
  d := 10000
  e := 9000
  f := 55000
  g := 0
  h := 480000
  i := 70000
  j := 410000
  z := none

/-- `T_OD` (40_timing.md R101); the length of Z is unset. -/
def odTable : IntervalTable where
  a := 1000
  b := 7500
  c := 7500
  d := 2500
  e := 1000
  f := 7000
  g := 2500
  h := 70000
  i := 8500
  j := 40000
  z := none

/-- The value the spec takes for each parameter of the hardware (00_scope.md R7). -/
def hardwareParams : Params where
  gpioWidth := 16
  divWidth := 16
  baseClockHz := 30000000
  divisorArith := .exact
  tStd := stdTable
  tOd := odTable
  searchCmd := 0xF0#8
  romBits := 64
  readTimeout := 5
  batchCapacity := none
  resultCapacity := none

/-- The pin exists: its index is below `GPIO_WIDTH` (00_scope.md R7; log entry 18). -/
def pinExists (p : Params) (i : Pin) : Bool := decide (i.toNat < p.gpioWidth)

/-- The list of n entries is longer than the capacity allows (93_implementation_defined.md I22). -/
def overCapacity (capacity : Option Nat) (n : Nat) : Bool :=
  match capacity with
  | none => false
  | some c => decide (c < n)

/-! ## Reset values of the GPIO words -/

/-- Reset value of `S.level`: only the data pin's bit is 1 (10_state.md R31). -/
def initialLevel (dataPin : Pin) : Half := 1#16 <<< dataPin.toNat

/-- Reset value of `S.dir`: only the pullup pin's bit, where there is one, is 1 (10_state.md R31). -/
def initialDir : Option Pin → Half
  | none => 0#16
  | some q => 1#16 <<< q.toNat

end Sys2Proof.Machine
end

