-- ==== Sys2Proof/Machine/State.lean ====
section
/-! DEFINITION. The state of the engine (10_state.md), what it shows the outside world (20_memory.md R55,
60_exceptions.md R220), what the outside world has prepared for it, and the machine right after reset. -/

namespace Sys2Proof.Machine

/-- The engine stops with no fault: every error of the spec ends its command with a response and the next command runs
normally (60_exceptions.md R220, R235), so the type of faults is empty (log entry 15; safe). -/
inductive Fault where
  deriving DecidableEq, Repr

/-- Why the model does not step. -/
inductive Refusal where
  /-- Raised by an arm of `exec` whose instruction has no meaning yet; no arm of this model raises it. Safe. -/
  | notModelled (mnemonic : String)
  /-- Raised by WBIT, RBIT, WBYTE, RBYTE and PULLUP while `S.bus_suspect` = 1: the bus is in an undefined electrical
  state (42_bitbyte.md R148, 93_implementation_defined.md I1). Safe. -/
  | busSuspect
  /-- Raised by TQ Z while the length of Z is unset in the mode in force (40_timing.md R103,
  93_implementation_defined.md I6). Safe. -/
  | intervalUnset
  /-- Raised by an INIT whose pullup pin is its data pin: no engine state is created (70_reset_and_hazards.md R250,
  93_implementation_defined.md I16). Safe. -/
  | pullupPinIsDataPin
  /-- Raised by an INIT whose data pin or pullup pin does not exist because the parameter `GPIO_WIDTH` is smaller than
  the hardware's 16; never on this hardware (00_scope.md R7; log entry 18). Safe. -/
  | noSuchPin
  /-- Raised by a command that would make the batch buffer longer than the parameter `BATCH_CAPACITY`; never on this
  hardware, where it is unbounded (93_implementation_defined.md I22). Safe. -/
  | batchFull
  /-- Raised by a SEARCH that would find more codes than the parameter `RESULT_CAPACITY`; never on this hardware, where
  it is unbounded (93_implementation_defined.md I22). Safe. -/
  | resultsFull
  deriving DecidableEq, Repr

/-- A line element (20_memory.md R51). -/
inductive Elem where
  /-- Sets the level and the direction of all 16 pins at once. -/
  | gpio (level dir : Half)
  /-- Holds the line for an interval in a mode, by the divisor fixed when the element is appended. -/
  | delay (iv : Interval) (m : Mode) (div : Half)
  /-- Reads the level of the data pin. -/
  | sample
  deriving DecidableEq, Repr

/-- A pending read, with the index of its first SAMPLE in the batch (10_state.md R28). -/
inductive Pending where
  | bit (k : Nat)
  | byte (k : Nat)
  | rst (k : Nat)
  deriving DecidableEq, Repr

/-- The bus phase: 0 IDLE, 1 PRESENCE, 2 NO_PRESENCE, 3 ACTIVE (10_state.md R32). -/
inductive BusPhase where
  | idle
  | presence
  | noPresence
  | active
  deriving DecidableEq, Repr

/-- The status of a response: codes 0 to 7; codes 8-15 are never returned (60_exceptions.md R220). -/
inductive Status where
  | ok
  | noDevice
  | comms
  | crc
  | timeout
  | protocol
  | usb
  | illegal
  deriving DecidableEq, Repr

/-- One value of a response: an unsigned number, a pending token (41_batch.md R128), or an 8-byte ROM code
(44_search.md R190). -/
inductive Value where
  | num (n : Nat)
  | token (t : Nat)
  | rom (bytes : List Byte)
  deriving DecidableEq, Repr

/-- A command response (60_exceptions.md R220). -/
structure Response where
  status : Status
  values : List Value
  deriving DecidableEq, Repr

/-- The outcome of one `TxRead` (20_memory.md R53). -/
inductive ReadOutcome where
  | bits (samples : List Bool)
  | timeout
  | usbErr
  deriving DecidableEq, Repr

/-- An event of the observation trace (20_memory.md R55). -/
inductive Event where
  | setup
  | txWrite (elems : List Elem)
  | txRead (n : Nat) (outcome : ReadOutcome)
  | sleep (us : Nat)
  deriving DecidableEq, Repr

/-- What the host does to the engine (00_scope.md R13): it issues a command word, or starts a session with INIT
(70_reset_and_hazards.md R250). -/
inductive HostInput where
  | command (w : Word)
  | init (dataPin : Pin) (pullupPin : Option Pin) (odSupported : Bool)
  deriving DecidableEq, Repr

/-- The state. The fields follow 10_state.md; the last two groups are the outputs and the inputs of the model. -/
structure State where
  /-- The parameters of the engine, fixed for the machine (00_scope.md R7). -/
  params : Params
  /-- `S.cfg_data_pin` (10_state.md R22). -/
  cfgDataPin : Pin
  /-- `S.cfg_pullup` (10_state.md R23). -/
  cfgPullup : Option Pin
  /-- `S.cfg_od_supported` (10_state.md R24). -/
  cfgOdSupported : Bool
  /-- `S.mode` (10_state.md R25). -/
  mode : Mode
  /-- `S.collecting` (10_state.md R26). -/
  collecting : Bool
  /-- `S.buf` (10_state.md R27). -/
  buf : List Elem
  /-- `S.pend` (10_state.md R28). -/
  pend : List Pending
  /-- `S.level` (10_state.md R30). -/
  level : Half
  /-- `S.dir` (10_state.md R30). -/
  dir : Half
  /-- `S.bus_phase` (10_state.md R32). -/
  busPhase : BusPhase
  /-- `S.bus_suspect` (10_state.md R33). -/
  busSuspect : Bool
  /-- `S.transport_dead` (10_state.md R33). -/
  transportDead : Bool
  /-- `S.crc_acc` (10_state.md R35). -/
  crcAcc : Half
  /-- `S.crc_width` (10_state.md R36). -/
  crcWidth : CrcWidth
  /-- `S.last_status` (10_state.md R37). -/
  lastStatus : Status
  /-- The observation trace of the session, oldest event first (20_memory.md R55). -/
  trace : List Event
  /-- The responses of the session, INIT's first (60_exceptions.md R220, 70_reset_and_hazards.md R251; log entry 4). -/
  responses : List Response
  /-- What the host has issued and the engine has not taken yet, the next first (log entry 1). -/
  hostQueue : List HostInput
  /-- The answers the environment has scripted for the coming `Setup` and `TxWrite` calls (log entry 2). -/
  writeAnswers : List WriteAnswer
  /-- The kinds of answer the environment has scripted for the coming `TxRead` calls (log entry 2). -/
  readAnswers : List ReadKind
  /-- The data pin's levels the environment has scripted for the coming SAMPLEs that are read (log entry 2). -/
  samples : List Bool
  /-- MODEL'S OWN: how many free values the run has drawn (log entry 2). -/
  freeDraws : Nat
  deriving DecidableEq, Repr

/-- The state that INIT creates, before its transport traffic (10_state.md R45, 70_reset_and_hazards.md R250).
The environment's part (the host queue, the scripted answers, the free-value counter) starts empty. -/
def State.created (params : Params) (dataPin : Pin) (pullupPin : Option Pin) (odSupported : Bool) : State where
  params := params
  cfgDataPin := dataPin
  cfgPullup := pullupPin
  cfgOdSupported := odSupported
  mode := .std
  collecting := false
  buf := []
  pend := []
  level := initialLevel dataPin
  dir := initialDir pullupPin
  busPhase := .idle
  busSuspect := false
  transportDead := false
  crcAcc := 0#16
  crcWidth := .crc8
  lastStatus := .ok
  trace := []
  responses := []
  hostQueue := []
  writeAnswers := []
  readAnswers := []
  samples := []
  freeDraws := 0

/-- The machine right after reset: INIT has run with the default start state S0 of 95_test_vectors.md section 0
(`DATA_PIN` = 0, no pullup pin, overdrive not configured) and both of its transport calls answered OK (log entry 3). -/
def State.reset : State :=
  { State.created hardwareParams 0#4 none false with
    trace := [.setup, .txWrite [.gpio (initialLevel 0#4) (initialDir none)]]
    responses := [⟨.ok, []⟩] }

end Sys2Proof.Machine
end

