-- ==== Sys2Proof/Machine/Ops.lean ====
section
/-! DEFINITION. The shared operations: the transport and its oracle (20_memory.md), the command batch (41_batch.md), the
line actions and time slots (42_bitbyte.md), raising an error and ending a command (60_exceptions.md), and INIT
(70_reset_and_hazards.md). -/

namespace Sys2Proof.Machine

/-! ## Ending a command, and raising an error -/

/-- An error: its kind and its info list (60_exceptions.md R221, R222). -/
structure Err where
  status : Status
  info : List Value
  deriving DecidableEq, Repr

/-- What a step of a command's pseudocode gives: it goes on with a value, it raises, or the model stops. The first two
carry the state, since what was written before a `raise` stays written (00_scope.md R11, 60_exceptions.md R221); a stop
carries the state it was met in, which the refused command drops. -/
inductive Res (α : Type) where
  | ok (a : α) (s : State)
  | raise (e : Err) (s : State)
  | stop (r : Refusal) (s : State)
  deriving Repr

/-- The rest of the pseudocode runs only if no error was raised (60_exceptions.md R221). -/
def Res.andThen {α β : Type} (r : Res α) (k : α → State → Res β) : Res β :=
  match r with
  | .ok a s => k a s
  | .raise e s => .raise e s
  | .stop r s => .stop r s

/-- ProtocolViolation with its reason code (60_exceptions.md R229). -/
def protocolViolation (reason : Nat) : Err := ⟨.protocol, [.num reason]⟩

/-- UsbError with its cause: 0 already dead, 1 a write, 2 a read (60_exceptions.md R222). -/
def usbError (cause : Nat) : Err := ⟨.usb, [.num cause]⟩

/-- TimeoutError of a read of n samples (60_exceptions.md R222). -/
def timeoutError (n : Nat) : Err := ⟨.timeout, [.num n]⟩

/-- CommsError at level i with the two poll bits (60_exceptions.md R222). -/
def commsError (i : Nat) (a c : Bool) : Err := ⟨.comms, [.num i, .num a.toNat, .num c.toNat]⟩

/-- IllegalCommand with the command word (60_exceptions.md R222, R228). -/
def illegalCommand (w : Word) : Err := ⟨.illegal, [.num w.toNat]⟩

/-- The response is returned to the host, and then `S.last_status` is set to its status (60_exceptions.md R220). -/
def respond (status : Status) (values : List Value) (s : State) : State :=
  { s with lastStatus := status, responses := s.responses ++ [⟨status, values⟩] }

/-- The end of a command: status OK with its values, or the error's kind with its info (60_exceptions.md R220, R221).
This is the one place where an error is delivered: it transfers no control (60_exceptions.md R234). Where the model
stops, the command is refused. -/
def finish : Res (List Value) → Host.Outcome State Fault Refusal
  | .ok vs s => .next (respond .ok vs s)
  | .raise e s => .next (respond e.status e.info s)
  | .stop r _ => .refused r

/-! ## The oracle: answers scripted by the environment, and free values after them (log entry 2) -/

/-- The answer to the next `Setup` or `TxWrite` (20_memory.md R52). -/
def drawWrite (s : State) : WriteAnswer × State :=
  match s.writeAnswers with
  | a :: rest => (a, { s with writeAnswers := rest })
  | [] => (Config.freeWrite s.freeDraws, { s with freeDraws := s.freeDraws + 1 })

/-- The kind of answer to the next `TxRead` (20_memory.md R53). -/
def drawRead (s : State) : ReadKind × State :=
  match s.readAnswers with
  | a :: rest => (a, { s with readAnswers := rest })
  | [] => (Config.freeRead s.freeDraws, { s with freeDraws := s.freeDraws + 1 })

/-- The level that the next SAMPLE observed (20_memory.md R53). -/
def drawSample (s : State) : Bool × State :=
  match s.samples with
  | b :: rest => (b, { s with samples := rest })
  | [] => (Config.freeSample s.freeDraws, { s with freeDraws := s.freeDraws + 1 })

/-- Exactly n samples (20_memory.md R53: a `Bits` answer always has length n). -/
def drawSamples : Nat → State → List Bool × State
  | 0, s => ([], s)
  | n + 1, s =>
    let (b, s) := drawSample s
    let (bs, s) := drawSamples n s
    (b :: bs, s)

/-! ## The transport -/

/-- An event is recorded (20_memory.md R55). -/
def record (e : Event) (s : State) : State := { s with trace := s.trace ++ [e] }

/-- `Setup` (70_reset_and_hazards.md R251): the event, then its outcome. -/
def txSetup (s : State) : WriteAnswer × State := drawWrite (record .setup s)

/-- `TxWrite(elems)` (20_memory.md R52): the event is recorded before the outcome is learnt. -/
def txWrite (elems : List Elem) (s : State) : WriteAnswer × State := drawWrite (record (.txWrite elems) s)

/-- `TxRead(n)` (20_memory.md R53): the outcome, then the event with it. -/
def txRead (n : Nat) (s : State) : ReadOutcome × State :=
  match drawRead s with
  | (.bits, s) =>
    let (bs, s) := drawSamples n s
    (.bits bs, record (.txRead n (.bits bs)) s)
  | (.timeout, s) => (.timeout, record (.txRead n .timeout) s)
  | (.usbErr, s) => (.usbErr, record (.txRead n .usbErr) s)

/-- `HostSleep(us)` (20_memory.md R54). -/
def hostSleep (us : Nat) (s : State) : State := record (.sleep us) s

/-! ## The command batch -/

/-- `nsamp`: the number of SAMPLE elements (41_batch.md R121). -/
def nsamp : List Elem → Nat
  | [] => 0
  | .sample :: es => nsamp es + 1
  | .gpio _ _ :: es => nsamp es
  | .delay _ _ _ :: es => nsamp es

/-- `Emit(e)` (41_batch.md R121). -/
def emit (e : Elem) (s : State) : State := { s with buf := s.buf ++ [e] }

/-- `Pend(kind)` (41_batch.md R122): the token, and the state with the new entry. -/
def pendRead (kind : Nat → Pending) (s : State) : Nat × State :=
  (s.pend.length, { s with pend := s.pend ++ [kind (nsamp s.buf)] })

/-- `resolve(s, p)` (41_batch.md R123): only the first sample of a read slot counts (42_bitbyte.md R155), and a reset
saw a device unless both its samples are 1 (42_bitbyte.md R149). -/
def resolve (samples : List Bool) : Pending → Nat
  | .bit k => (samples.getD k false).toNat
  | .byte k => bitsToNat ((List.range 8).map fun j => samples.getD (k + 2 * j) false)
  | .rst k => if samples.getD k false && samples.getD (k + 1) false then 0 else 1

/-- The batch becomes idle and empty (41_batch.md R123). -/
def clearBatch (s : State) : State := { s with buf := [], pend := [], collecting := false }

/-- `Flush()` (41_batch.md R123): one write of the buffer, then at most one read for all its samples. -/
def flush (s : State) : Res (List Nat) :=
  let elems := s.buf
  let pend := s.pend
  let s := clearBatch s
  if elems = [] then .ok [] s
  else
    match txWrite elems s with
    | (.usbErr, s) => .raise (usbError 1) { s with transportDead := true }
    | (.ok, s) =>
      if nsamp elems = 0 then .ok [] s
      else
        match txRead (nsamp elems) s with
        | (.usbErr, s) => .raise (usbError 2) { s with transportDead := true }
        | (.timeout, s) => .raise (timeoutError (nsamp elems)) { s with busSuspect := true }
        | (.bits bs, s) => .ok (pend.map (resolve bs)) s

/-- The rest of a command's pseudocode, after elements were appended: the model stops where they do not fit into
`BATCH_CAPACITY` (93_implementation_defined.md I22). -/
def ifRoom {α : Type} (s : State) (k : State → Res α) : Res α :=
  if overCapacity s.params.batchCapacity s.buf.length then .stop .batchFull s else k s

/-- The implicit batch of `WithBatch` (41_batch.md R124), its `else` branch. A body appends the elements of one command
and gives the tokens of its reads. -/
def implicitBatch (body : State → List Nat × State) (s : State) : Res (List Nat) :=
  if s.transportDead then .raise (usbError 0) s
  else ifRoom (body { s with collecting := true }).2 flush

/-- `WithBatch(body)` (41_batch.md R124): tokens inside an explicit batch, values outside one. -/
def withBatch (body : State → List Nat × State) (s : State) : Res (List Value) :=
  if s.collecting then
    let (toks, s) := body s
    ifRoom s fun s => .ok (toks.map .token) s
  else (implicitBatch body s).andThen fun vals s => .ok (vals.map .num) s

/-! ## Line actions -/

/-- The GPIO state is emitted. -/
def emitGpio (s : State) : State := emit (.gpio s.level s.dir) s

/-- `DriveLow()` (42_bitbyte.md R140). -/
def driveLow (s : State) : State :=
  emitGpio { s with level := setPin s.level s.cfgDataPin false, dir := setPin s.dir s.cfgDataPin true }

/-- `Release()` (42_bitbyte.md R141). -/
def release (s : State) : State :=
  emitGpio { s with level := setPin s.level s.cfgDataPin true, dir := setPin s.dir s.cfgDataPin false }

/-- `SetPullup(x)` on the pullup pin q (42_bitbyte.md R142). -/
def setPullup (q : Pin) (x : Bool) (s : State) : State :=
  emitGpio { s with level := setPin s.level q x }

/-- `Sample()` (42_bitbyte.md R143). -/
def sampleLine (s : State) : State := emit .sample s

/-- The delay element that `Wait(iv)` appends in the mode in force (40_timing.md R102). No slot waits Z, whose length
may be unset. -/
def delayElem (p : Params) (m : Mode) (iv : Interval) : Elem :=
  .delay iv m (divisor p ((lengthOf p m iv).getD 0))

/-- `Wait(iv)` (40_timing.md R102): the divisor is fixed when the element is appended. -/
def wait (iv : Interval) (s : State) : State := emit (delayElem s.params s.mode iv) s

/-! ## Time slots -/

/-- The write slot of a bit (42_bitbyte.md R144, R145). -/
def writeSlot (b : Bool) (s : State) : State :=
  if b then wait .b (release (wait .a (driveLow s)))
  else wait .d (release (wait .c (driveLow s)))

/-- The read slot (42_bitbyte.md R146). -/
def readSlot (s : State) : State :=
  sampleLine (wait .f (sampleLine (wait .e (release (wait .a (driveLow s))))))

/-- The reset sequence (42_bitbyte.md R147). -/
def resetSlot (s : State) : State :=
  sampleLine (wait .j (sampleLine (wait .i (release (wait .h (driveLow s))))))

/-- One write slot for each bit of a list, in order. -/
def writeSlots : List Bool → State → State
  | [], s => s
  | b :: bs, s => writeSlots bs (writeSlot b s)

/-- n read slots. -/
def readSlots : Nat → State → State
  | 0, s => s
  | n + 1, s => readSlots n (readSlot s)

/-- `S.bus_phase <- 3` (10_state.md R32). -/
def busActive (s : State) : State := { s with busPhase := .active }

/-! ## INIT -/

/-- INIT reports its result to the host like a response; `S.last_status` keeps its reset value
(70_reset_and_hazards.md R251). -/
def initResult (r : Response) (s : State) : State := { s with responses := s.responses ++ [r] }

/-- `InitTransport()` (70_reset_and_hazards.md R251): `Setup`, then one write of the GPIO state. -/
def initTransport (s : State) : State :=
  match txSetup s with
  | (.usbErr, s) => initResult ⟨.usb, [.num 1]⟩ { s with transportDead := true }
  | (.ok, s) =>
    match txWrite [.gpio s.level s.dir] s with
    | (.usbErr, s) => initResult ⟨.usb, [.num 1]⟩ { s with transportDead := true }
    | (.ok, s) => initResult ⟨.ok, []⟩ s

/-- INIT (70_reset_and_hazards.md R250): a new session in place of the running one. Only the environment's part of the
state goes on: what the host has still to issue and what the transport will still answer (log entry 4). -/
def initEngine (dataPin : Pin) (pullupPin : Option Pin) (odSupported : Bool) (s : State) :
    Host.Outcome State Fault Refusal :=
  if pullupPin = some dataPin then .refused .pullupPinIsDataPin
  else if !pinExists s.params dataPin || !pullupPin.all (pinExists s.params) then .refused .noSuchPin
  else .next (initTransport
    { State.created s.params dataPin pullupPin odSupported with
      hostQueue := s.hostQueue
      writeAnswers := s.writeAnswers
      readAnswers := s.readAnswers
      samples := s.samples
      freeDraws := s.freeDraws })

end Sys2Proof.Machine
end

