-- ==== Sys2Proof/Machine/Batch.lean ====
section
/-! DEFINITION. BEGIN and FLUSH (41_batch.md). -/

namespace Sys2Proof.Machine

/-- BEGIN (41_batch.md R126): reason 1 where a batch is collecting. -/
def execBeginBatch (s : State) : Host.Outcome State Fault Refusal :=
  finish (if s.collecting then .raise (protocolViolation 1) s else .ok [] { s with collecting := true })

/-- The pseudocode of FLUSH (41_batch.md R127): reason 2 while idle; the batch is discarded where the transport is dead
(95_test_vectors.md V-USB step 5; log entry 19). -/
def flushCommand (s : State) : Res (List Value) :=
  if s.collecting = false then .raise (protocolViolation 2) s
  else if s.transportDead then .raise (usbError 0) (clearBatch s)
  else (flush s).andThen fun vals s => .ok (vals.map .num) s

/-- FLUSH (41_batch.md R127). -/
def execFlush (s : State) : Host.Outcome State Fault Refusal := finish (flushCommand s)

end Sys2Proof.Machine
end

