-- ==== Sys2Proof/Machine/BitByte.lean ====
section
/-! DEFINITION. RESET, WBIT, RBIT, WBYTE, RBYTE and PULLUP (42_bitbyte.md). -/

namespace Sys2Proof.Machine

/-! ## Reset -/

/-- `ResetOnce()` (42_bitbyte.md R149): one reset sequence in an implicit batch; the presence bit. -/
def resetOnce (s : State) : Res Bool :=
  let s := { s with collecting := true }
  (ifRoom (resetSlot (pendRead .rst s).2) flush).andThen fun vals s =>
    .ok (decide (vals.headD 0 = 1)) { s with busSuspect := false }

/-- `S.bus_phase` from the presence bit (42_bitbyte.md R150). -/
def setPresence (p : Bool) (s : State) : State :=
  { s with busPhase := if p then .presence else .noPresence }

/-- RESET after its two checks (42_bitbyte.md R150): the single fallback from overdrive to standard speed. -/
def resetBody (s : State) : Res Bool :=
  (resetOnce s).andThen fun p s =>
    if p = false ∧ s.mode = .od then
      (resetOnce { s with mode := .std }).andThen fun p s => .ok p (setPresence p s)
    else .ok p (setPresence p s)

/-- The pseudocode of RESET (42_bitbyte.md R150). -/
def resetCommand (s : State) : Res (List Value) :=
  if s.collecting then .raise (protocolViolation 3) s
  else if s.transportDead then .raise (usbError 0) s
  else (resetBody s).andThen fun p s => .ok [.num p.toNat] s

/-- RESET (42_bitbyte.md R150). -/
def execReset (s : State) : Host.Outcome State Fault Refusal := finish (resetCommand s)

/-! ## Bits and bytes -/

/-- WBIT's elements (42_bitbyte.md R152). -/
def wbitBody (b : Bool) (s : State) : List Nat × State := ([], busActive (writeSlot b s))

/-- RBIT's elements, with the token of its read (42_bitbyte.md R154). -/
def rbitBody (s : State) : List Nat × State :=
  let (t, s) := pendRead .bit s
  ([t], busActive (readSlot s))

/-- WBYTE's elements, bit 0 first (42_bitbyte.md R156). -/
def wbyteBody (d : Byte) (s : State) : List Nat × State := ([], busActive (writeSlots (byteBits d) s))

/-- RBYTE's elements, with the token of its read (42_bitbyte.md R158). -/
def rbyteBody (s : State) : List Nat × State :=
  let (t, s) := pendRead .byte s
  ([t], busActive (readSlots 8 s))

/-- A bit or byte command (42_bitbyte.md R152-R158). It is refused on a suspect bus (42_bitbyte.md R148), but the dead
transport of an implicit batch is reported before (60_exceptions.md R231; log entry 9). -/
def bitCommand (body : State → List Nat × State) (s : State) : Res (List Value) :=
  if s.busSuspect && (s.collecting || !s.transportDead) then .stop .busSuspect s else withBatch body s

/-- WBIT (42_bitbyte.md R152). -/
def execWbit (b : Bool) (s : State) : Host.Outcome State Fault Refusal := finish (bitCommand (wbitBody b) s)

/-- RBIT (42_bitbyte.md R154). -/
def execRbit (s : State) : Host.Outcome State Fault Refusal := finish (bitCommand rbitBody s)

/-- WBYTE (42_bitbyte.md R156). -/
def execWbyte (d : Byte) (s : State) : Host.Outcome State Fault Refusal := finish (bitCommand (wbyteBody d) s)

/-- RBYTE (42_bitbyte.md R158). -/
def execRbyte (s : State) : Host.Outcome State Fault Refusal := finish (bitCommand rbyteBody s)

/-! ## Strong pullup -/

/-- PULLUP up to its completion read (42_bitbyte.md R160): the open batch is flushed, with the pullup raised where
there is a pullup pin, and the host sleeps. -/
def pullupWait (us : Nat) (s : State) : Res (List Nat) :=
  match s.cfgPullup with
  | some q =>
    (ifRoom (setPullup q true s) flush).andThen fun _ s =>
      ifRoom (setPullup q false { hostSleep us s with collecting := true }) flush
  | none => (flush s).andThen fun _ s => .ok [] (hostSleep us s)

/-- PULLUP's completion read (42_bitbyte.md R160). -/
def pullupRead (s : State) : Res (List Value) :=
  (ifRoom (rbyteBody { s with collecting := true }).2 flush).andThen fun vals s => .ok (vals.map .num) s

/-- The pseudocode of PULLUP (42_bitbyte.md R160). It is refused on a suspect bus (42_bitbyte.md R148) after its
protocol violations and the dead transport (60_exceptions.md R231; log entry 9), which loses the batch (log entry 19). -/
def pullupCommand (us : Nat) (s : State) : Res (List Value) :=
  if s.collecting = false then .raise (protocolViolation 5) s
  else if s.pend ≠ [] then .raise (protocolViolation 6) s
  else if s.transportDead then .raise (usbError 0) { s with buf := [], collecting := false }
  else if s.busSuspect then .stop .busSuspect s
  else (pullupWait us s).andThen fun _ s => pullupRead s

/-- PULLUP (42_bitbyte.md R160). -/
def execPullup (u : BitVec 24) (s : State) : Host.Outcome State Fault Refusal := finish (pullupCommand u.toNat s)

end Sys2Proof.Machine
end

