-- ==== Sys2Proof/Machine/Crc.lean ====
section
/-! DEFINITION. The CRC function and CRCI, CRCB, CRCR and CRCC (43_crc.md). -/

namespace Sys2Proof.Machine

/-- `POLY8` (43_crc.md R171). -/
def poly8 : BitVec 8 := 0x8C#8

/-- `POLY16` (43_crc.md R171). -/
def poly16 : BitVec 16 := 0xA001#16

/-- The loop of `crc_byte_w` (43_crc.md R173), k times: only bit 0 of `d ^ c` is tested. -/
def crcBits {w : Nat} (poly : BitVec w) : Nat → BitVec w → Byte → BitVec w
  | 0, c, _ => c
  | k + 1, c, d =>
    crcBits poly k (if d.getLsbD 0 != c.getLsbD 0 then (c >>> 1) ^^^ poly else c >>> 1) (d >>> 1)

/-- `crc_byte_w(c, d)` (43_crc.md R173). -/
def crcByte {w : Nat} (poly : BitVec w) (c : BitVec w) (d : Byte) : BitVec w := crcBits poly 8 c d

/-- The bytes of a message fed in order from a running value (43_crc.md R179). -/
def crcFrom {w : Nat} (poly : BitVec w) : BitVec w → List Byte → BitVec w
  | c, [] => c
  | c, d :: ds => crcFrom poly (crcByte poly c d) ds

/-- `crc_8(data)` (43_crc.md R179). -/
def crc8 (data : List Byte) : BitVec 8 := crcFrom poly8 0#8 data

/-- `crc_16(data)` (43_crc.md R179). -/
def crc16 (data : List Byte) : BitVec 16 := crcFrom poly16 0#16 data

/-- The accumulator after one byte (43_crc.md R174). -/
def crcNext (w : CrcWidth) (acc : Half) (d : Byte) : Half :=
  match w with
  | .crc8 => (crcByte poly8 (acc.extractLsb' 0 8) d).setWidth 16
  | .crc16 => crcByte poly16 acc d

/-- CRCI (43_crc.md R172). -/
def execCrci (w : CrcWidth) (s : State) : Host.Outcome State Fault Refusal :=
  finish (.ok [] { s with crcWidth := w, crcAcc := 0#16 })

/-- CRCB (43_crc.md R174). -/
def execCrcb (d : Byte) (s : State) : Host.Outcome State Fault Refusal :=
  finish (.ok [] { s with crcAcc := crcNext s.crcWidth s.crcAcc d })

/-- CRCR (43_crc.md R175). -/
def execCrcr (s : State) : Host.Outcome State Fault Refusal :=
  finish (.ok [.num s.crcAcc.toNat] s)

/-- CRCC (43_crc.md R176): the accumulator is kept. -/
def execCrcc (s : State) : Host.Outcome State Fault Refusal :=
  finish (if s.crcAcc ≠ 0#16 then .raise ⟨.crc, [.num s.crcAcc.toNat]⟩ s else .ok [] s)

end Sys2Proof.Machine
end

