-- ==== Sys2Proof/Machine/Search.lean ====
section
/-! DEFINITION. SEARCH, the ROM search state machine (44_search.md). Its sequencer state (10_state.md R34) is the
arguments of these functions: none of it outlives the command. The stack is a list whose head is its top. -/

namespace Sys2Proof.Machine

/-- What one level does with the poll (44_search.md R192). -/
inductive LevelChoice where
  /-- Write this bit and go on. -/
  | take (b : Bool)
  /-- Push the 1-branch and go on with 0. -/
  | fork
  /-- No device answered the first poll of the empty path. -/
  | pathEmpty
  /-- A poll that no set of devices could give. -/
  | comms
  deriving DecidableEq, Repr

/-- The choice at level i of the pass that replays P, for the poll (a, c) (44_search.md R191-R195). -/
def chooseLevel (P : List Bool) (i : Nat) (a c : Bool) : LevelChoice :=
  match P[i]? with
  | some b => if (b = false ∧ a = true) ∨ (b = true ∧ c = true) then .comms else .take b
  | none =>
    if a ≠ c then .take a
    else if a = false then .fork
    else if P.length = 0 ∧ i = 0 then .pathEmpty
    else .comms

/-- `RBitBody()` (44_search.md R191): one read slot in its own implicit batch. -/
def pollBit (s : State) : Res Bool :=
  (implicitBatch rbitBody s).andThen fun vals s => .ok (decide (vals.headD 0 = 1)) s

/-- The levels of a pass, n of them left (44_search.md R191). It gives the resolved bits, or none for PATH_EMPTY, and
the stack. -/
def searchLevels (P : List Bool) : Nat → List Bool → List (List Bool) → State → Res (Option (List Bool) × List (List Bool))
  | 0, cur, stack, s => .ok (some cur, stack) s
  | n + 1, cur, stack, s =>
    (pollBit s).andThen fun a s =>
      (pollBit s).andThen fun c s =>
        match chooseLevel P cur.length a c with
        | .comms => .raise (commsError cur.length a c) s
        | .pathEmpty => .ok (none, stack) s
        | .take b =>
          (implicitBatch (wbitBody b) s).andThen fun _ s => searchLevels P n (cur ++ [b]) stack s
        | .fork =>
          (implicitBatch (wbitBody false) s).andThen fun _ s =>
            searchLevels P n (cur ++ [false]) ((cur ++ [true]) :: stack) s

/-- The validation of a completed code (44_search.md R196). -/
def checkCode (code : List Byte) (stack : List (List Bool)) (s : State) : Res (Option (List Byte) × List (List Bool)) :=
  if crc8 code ≠ 0#8 then .raise ⟨.crc, .num (crc8 code).toNat :: code.map fun b => .num b.toNat⟩ s
  else .ok (some code, stack) s

/-- `Pass(P)` (44_search.md R191): the code found, or none for NO_PRESENCE and PATH_EMPTY, and the stack. -/
def searchPass (P : List Bool) (stack : List (List Bool)) (s : State) : Res (Option (List Byte) × List (List Bool)) :=
  (resetBody s).andThen fun p s =>
    if p = false then .ok (none, stack) s
    else
      (implicitBatch (wbyteBody s.params.searchCmd) s).andThen fun _ s =>
        (searchLevels P s.params.romBits [] stack s).andThen fun out s =>
          match out.1 with
          | none => .ok (none, out.2) s
          | some cur => checkCode (packCode cur) out.2 s

/-- The loop of SEARCH (44_search.md R190, R197). The fuel bounds the number of passes; `searchFuel` of them are enough
for every sequence of answers (44_search.md R200; log entry 12). More codes than `RESULT_CAPACITY` are refused
(93_implementation_defined.md I22). -/
def searchLoop : Nat → List (List Bool) → List (List Byte) → State → Res (List (List Byte))
  | 0, _, results, s => .ok results s
  | _ + 1, [], results, s => .ok results s
  | fuel + 1, P :: stack, results, s =>
    (searchPass P stack s).andThen fun out s =>
      match out.1 with
      | none => searchLoop fuel out.2 results s
      | some code =>
        if overCapacity s.params.resultCapacity (results.length + 1) then .stop .resultsFull s
        else searchLoop fuel out.2 (results ++ [code]) s

/-- The number of passes that is enough for every search: one for each code of `ROM_BITS` bits (log entry 12). -/
def searchFuel (p : Params) : Nat := 2 ^ p.romBits

/-- The pseudocode of SEARCH (44_search.md R190). -/
def searchCommand (s : State) : Res (List Value) :=
  if s.collecting then .raise (protocolViolation 4) s
  else if s.transportDead then .raise (usbError 0) s
  else (searchLoop (searchFuel s.params) [[]] [] s).andThen fun codes s => .ok (codes.map .rom) s

/-- SEARCH (44_search.md R190). -/
def execSearch (s : State) : Host.Outcome State Fault Refusal := finish (searchCommand s)

end Sys2Proof.Machine
end

