-- ==== Sys2Proof/Machine/Flags.lean ====
section
/-! DEFINITION. Status codes and the register view that RDREG reads (10_state.md R38-R44, 60_exceptions.md R220). -/

namespace Sys2Proof.Machine

/-- The 4-bit status code (60_exceptions.md R220). -/
def Status.code : Status → BitVec 4
  | .ok => 0#4
  | .noDevice => 1#4
  | .comms => 2#4
  | .crc => 3#4
  | .timeout => 4#4
  | .protocol => 5#4
  | .usb => 6#4
  | .illegal => 7#4

/-- The 2-bit code of the bus phase (10_state.md R32). -/
def BusPhase.code : BusPhase → BitVec 2
  | .idle => 0#2
  | .presence => 1#2
  | .noPresence => 2#2
  | .active => 3#2

/-- Register 0, CONFIG (10_state.md R38). -/
def configReg (s : State) : Word :=
  0#22 ++ BitVec.ofBool s.cfgOdSupported ++ BitVec.ofBool s.cfgPullup.isSome ++ s.cfgPullup.getD 0#4 ++ s.cfgDataPin

/-- Register 1, MODE (10_state.md R39). -/
def modeReg (s : State) : Word := 0#31 ++ BitVec.ofBool s.mode.toBit

/-- Register 2, STATUS (10_state.md R40). -/
def statusReg (s : State) : Word :=
  BitVec.ofNat 16 (min s.pend.length 0xFFFF) ++ 0#4 ++ s.lastStatus.code ++ 0#3 ++ BitVec.ofBool s.transportDead ++
    BitVec.ofBool s.busSuspect ++ s.busPhase.code ++ BitVec.ofBool s.collecting

/-- Register 3, GPIO (10_state.md R41). -/
def gpioReg (s : State) : Word := s.dir ++ s.level

/-- Register 4, CRC (10_state.md R42). -/
def crcReg (s : State) : Word := 0#15 ++ BitVec.ofBool s.crcWidth.toBit ++ s.crcAcc

/-- Register 5, BATCH (10_state.md R43). -/
def batchReg (s : State) : Word := BitVec.ofNat 32 (min s.buf.length 0xFFFFFFFF)

/-- The 32-bit value of a register of the register view. -/
def readReg (r : Reg) (s : State) : Word :=
  match r with
  | .config => configReg s
  | .mode => modeReg s
  | .status => statusReg s
  | .gpio => gpioReg s
  | .crc => crcReg s
  | .batch => batchReg s

end Sys2Proof.Machine
end

