-- ==== Sys2Proof/Machine/Timing.lean ====
section
/-! DEFINITION. NOP, TQ, TQN, MODE and RDREG (40_timing.md). -/

namespace Sys2Proof.Machine

/-- Bytes as response values. -/
def byteValues (bs : List Byte) : List Value := bs.map fun b => .num b.toNat

/-- NOP (40_timing.md R106). -/
def execNop (s : State) : Host.Outcome State Fault Refusal := finish (.ok [] s)

/-- TQ (40_timing.md R103): the clock-set command of an interval in the mode in force. An index above 10 raises
IllegalCommand with the word that encodes it (log entry 10); Z with its length unset is refused (log entry 5). -/
def execTq (iv : BitVec 4) (s : State) : Host.Outcome State Fault Refusal :=
  match intervalOfIndex iv with
  | none => finish (.raise (illegalCommand (encode (.tq iv))) s)
  | some interval =>
    match lengthOf s.params s.mode interval with
    | none => .refused .intervalUnset
    | some ns => finish (.ok (byteValues (clkset (divisor s.params ns))) s)

/-- TQN (40_timing.md R105): the clock-set command of a length in nanoseconds. -/
def execTqn (u : BitVec 24) (s : State) : Host.Outcome State Fault Refusal :=
  finish (.ok (byteValues (clkset (divisor s.params u.toNat))) s)

/-- MODE (40_timing.md R104): reason 7 where overdrive is asked for and not configured. -/
def execMode (m : Mode) (s : State) : Host.Outcome State Fault Refusal :=
  finish (if m = .od ∧ s.cfgOdSupported = false then .raise (protocolViolation 7) s
    else .ok [] { s with mode := m })

/-- RDREG (40_timing.md R107): the register is read before this command writes `S.last_status`. A number above 5 raises
IllegalCommand with the word that encodes it (log entry 10). -/
def execRdreg (r : BitVec 3) (s : State) : Host.Outcome State Fault Refusal :=
  match regOfNumber r with
  | none => finish (.raise (illegalCommand (encode (.rdreg r))) s)
  | some reg => finish (.ok [.num (readReg reg s).toNat] s)

end Sys2Proof.Machine
end

