-- ==== Sys2Proof/Machine/Dispatch.lean ====
section
/-! DEFINITION. The meaning of each command: one arm per row of the opcode map (30_encoding.md R77). -/

namespace Sys2Proof.Machine

def exec (i : Instr) (s : State) : Host.Outcome State Fault Refusal :=
  match i with
  | .nop => Sys2Proof.Machine.execNop s
  | .tq iv => Sys2Proof.Machine.execTq iv s
  | .tqn u => Sys2Proof.Machine.execTqn u s
  | .mode m => Sys2Proof.Machine.execMode m s
  | .beginBatch => Sys2Proof.Machine.execBeginBatch s
  | .flush => Sys2Proof.Machine.execFlush s
  | .reset => Sys2Proof.Machine.execReset s
  | .wbit b => Sys2Proof.Machine.execWbit b s
  | .rbit => Sys2Proof.Machine.execRbit s
  | .wbyte d => Sys2Proof.Machine.execWbyte d s
  | .rbyte => Sys2Proof.Machine.execRbyte s
  | .pullup u => Sys2Proof.Machine.execPullup u s
  | .crci w => Sys2Proof.Machine.execCrci w s
  | .crcb d => Sys2Proof.Machine.execCrcb d s
  | .crcr => Sys2Proof.Machine.execCrcr s
  | .crcc => Sys2Proof.Machine.execCrcc s
  | .search => Sys2Proof.Machine.execSearch s
  | .rdreg r => Sys2Proof.Machine.execRdreg r s

end Sys2Proof.Machine
end

