-- ==== Sys2Proof/Machine/Command.lean ====
section
/-! DEFINITION. Carrying out what the host issued: one command word, or INIT. -/

namespace Sys2Proof.Machine

/-- A command word: it is decoded before any state is read (30_encoding.md R78), and an illegal word ends with
IllegalCommand (60_exceptions.md R228). -/
def runWord (w : Word) (s : State) : Host.Outcome State Fault Refusal :=
  match decode w with
  | .ok i => exec i s
  | .error _ => finish (.raise (illegalCommand w) s)

/-- One input of the host (00_scope.md R13). -/
def runInput (x : HostInput) (s : State) : Host.Outcome State Fault Refusal :=
  match x with
  | .command w => runWord w s
  | .init dataPin pullupPin odSupported => initEngine dataPin pullupPin odSupported s

/-- The host issues a command word next, ahead of what it has issued already (log entry 1). -/
def issueNext (w : Word) (s : State) : State := { s with hostQueue := .command w :: s.hostQueue }

end Sys2Proof.Machine
end

