-- ==== Sys2Proof/Machine/Step.lean ====
section
/-! DEFINITION. One step: the engine takes what the host issued next and carries it out (00_scope.md R11, R13). -/

namespace Sys2Proof.Machine

/-- One step. Where the host has issued nothing the engine does nothing and all its state survives
(60_exceptions.md R242; log entry 1). -/
def step (s : State) : Host.Outcome State Fault Refusal :=
  match s.hostQueue with
  | [] => .next s
  | x :: rest => runInput x { s with hostQueue := rest }

/-- The word w as the command that the host issues next: the engine has no program counter and no program memory to
store it in (10_state.md R21, 20_memory.md R50; log entry 1). -/
def State.withFetchWord (s : State) (_nbits w : Nat) : State := issueNext (BitVec.ofNat 32 w) s

end Sys2Proof.Machine
end

