-- ==== Sys2Proof/Machine/Pseudo.lean ====
section
/-! DEFINITION. The pseudo-instructions (30_encoding.md R83): each stands for a list of commands, and none has a word of
its own. -/

namespace Sys2Proof.Machine

/-- The pseudo-instructions with their operands. The width of a CRC is the one in its name. -/
inductive Pseudo where
  /-- WBYTES. -/
  | wbytes (data : List Byte)
  /-- RBYTES. -/
  | rbytes (n : Nat)
  /-- CRC8 and CRC16. -/
  | crc (w : CrcWidth) (data : List Byte)
  /-- CRC8OK and CRC16OK. -/
  | crcOk (w : CrcWidth) (data : List Byte)
  deriving DecidableEq, Repr

/-- The commands a pseudo-instruction stands for, in order (30_encoding.md R83). -/
def Pseudo.expand : Pseudo → List Instr
  | .wbytes data => data.map .wbyte
  | .rbytes n => List.replicate n .rbyte
  | .crc w data => .crci w :: data.map .crcb ++ [.crcr]
  | .crcOk w data => .crci w :: data.map .crcb ++ [.crcc]

/-- The command words the host issues for it. -/
def Pseudo.words (p : Pseudo) : List Word := p.expand.map encode

end Sys2Proof.Machine
end

