-- ==== Sys2Proof/Machine/Transport.lean ====
section
/-! DEFINITION. The byte level of the transport interface (20_memory.md R52, R53, R56; 30_encoding.md R90, R91). The
encodings of GPIO and SAMPLE elements, the wait suffix and the bytes per sample are `OPEN` (log entry 6). -/

namespace Sys2Proof.Machine

/-- `enc` of one line element, for the data pin it samples (20_memory.md R56). -/
def encElem (dataPin : Pin) : Elem → List Byte
  | .gpio level dir => Config.encGpio level dir
  | .delay _ _ div => clkset div ++ Config.waitSuffix
  | .sample => Config.encSample dataPin

/-- The bytes of one transport write: the elements' encodings, in order (20_memory.md R52). -/
def encElems (dataPin : Pin) : List Elem → List Byte
  | [] => []
  | e :: es => encElem dataPin e ++ encElems dataPin es

/-- The three setup commands (30_encoding.md R91). -/
def setupBytes : List Byte := [0x8A#8, 0x97#8, 0x8D#8]

/-- The bytes an event writes to the transport. -/
def writtenBytes (dataPin : Pin) : Event → List Byte
  | .setup => setupBytes
  | .txWrite elems => encElems dataPin elems
  | .txRead _ _ => []
  | .sleep _ => []

/-- The arguments of the transport's read for n samples: the byte count, and `READ_TIMEOUT` in seconds (20_memory.md R53,
R62; 00_scope.md R7). -/
def readRequest (p : Params) (n : Nat) : Nat × Nat := (n * Config.sampleBytes, p.readTimeout)

end Sys2Proof.Machine
end

