-- ==== Sys2Proof/Safety.lean ====
section
/-! DEFINITION. The terms that claims use: the element lists of the time slots, the invariants of a session, and the
ideal bus of 44_search.md R203. -/

namespace Sys2Proof.Machine

/-! ## The element lists of 42_bitbyte.md R144-R147, for the pins, the mode and the parameters of a state -/

/-- The element that drives the data line low (42_bitbyte.md R140). -/
def lowElem (s : State) : Elem := .gpio (setPin s.level s.cfgDataPin false) (setPin s.dir s.cfgDataPin true)

/-- The element that releases the data line (42_bitbyte.md R141). -/
def relElem (s : State) : Elem := .gpio (setPin s.level s.cfgDataPin true) (setPin s.dir s.cfgDataPin false)

/-- A delay in the mode in force (40_timing.md R102). -/
def delayIn (s : State) (iv : Interval) : Elem := delayElem s.params s.mode iv

/-- A write slot (42_bitbyte.md R144, R145). -/
def writeElems (s : State) (b : Bool) : List Elem :=
  if b then [lowElem s, delayIn s .a, relElem s, delayIn s .b]
  else [lowElem s, delayIn s .c, relElem s, delayIn s .d]

/-- A read slot (42_bitbyte.md R146). -/
def readElems (s : State) : List Elem :=
  [lowElem s, delayIn s .a, relElem s, delayIn s .e, .sample, delayIn s .f, .sample]

/-- A reset sequence (42_bitbyte.md R147). -/
def resetElems (s : State) : List Elem :=
  [lowElem s, delayIn s .h, relElem s, delayIn s .i, .sample, delayIn s .j, .sample]

/-- The eight write slots of a byte, bit 0 first (42_bitbyte.md R156). -/
def writeByteElems (s : State) (d : Byte) : List Elem :=
  ((List.range 8).map fun j => writeElems s (d.getLsbD j)).flatten

/-- The eight read slots of a byte (42_bitbyte.md R158). -/
def readByteElems (s : State) : List Elem := (List.replicate 8 (readElems s)).flatten

/-- The commands that emit time slots into a batch: their elements, the pending read they add, and the samples they
take (41_batch.md R125). -/
inductive SlotCommand where
  | wbit (b : Bool)
  | rbit
  | wbyte (d : Byte)
  | rbyte
  deriving DecidableEq, Repr

/-- The command. -/
def SlotCommand.instr : SlotCommand → Instr
  | .wbit b => .wbit b
  | .rbit => .rbit
  | .wbyte d => .wbyte d
  | .rbyte => .rbyte

/-- The elements it appends (42_bitbyte.md R152-R158). -/
def SlotCommand.elems (s : State) : SlotCommand → List Elem
  | .wbit b => writeElems s b
  | .rbit => readElems s
  | .wbyte d => writeByteElems s d
  | .rbyte => readByteElems s

/-- The number of samples its read takes: 0 for a write (41_batch.md R125). -/
def SlotCommand.sampleCount : SlotCommand → Nat
  | .wbit _ => 0
  | .rbit => 2
  | .wbyte _ => 0
  | .rbyte => 16

/-- The pending read it adds, whose first sample is the k-th of the batch (41_batch.md R122). -/
def SlotCommand.pending (k : Nat) : SlotCommand → List Pending
  | .wbit _ => []
  | .rbit => [.bit k]
  | .wbyte _ => []
  | .rbyte => [.byte k]

/-- The line elements it appends, by kind: GPIO, DELAY, SAMPLE (the table of 41_batch.md R125). -/
def SlotCommand.counts : SlotCommand → Nat × Nat × Nat
  | .wbit _ => (2, 2, 0)
  | .rbit => (2, 3, 2)
  | .wbyte _ => (16, 16, 0)
  | .rbyte => (16, 24, 16)

/-- The line elements it appends in all (the table of 41_batch.md R125). -/
def SlotCommand.total : SlotCommand → Nat
  | .wbit _ => 4
  | .rbit => 7
  | .wbyte _ => 32
  | .rbyte => 56

/-- The elements of a list by kind: GPIO, DELAY, SAMPLE. -/
def elemKinds : List Elem → Nat × Nat × Nat
  | [] => (0, 0, 0)
  | .gpio _ _ :: es => ((elemKinds es).1 + 1, (elemKinds es).2.1, (elemKinds es).2.2)
  | .delay _ _ _ :: es => ((elemKinds es).1, (elemKinds es).2.1 + 1, (elemKinds es).2.2)
  | .sample :: es => ((elemKinds es).1, (elemKinds es).2.1, (elemKinds es).2.2 + 1)

/-- A buffer of n elements is within `BATCH_CAPACITY` (00_scope.md R7): always, on this hardware. -/
def fitsBatch (s : State) (n : Nat) : Prop := overCapacity s.params.batchCapacity n = false

/-- A list of n codes is within `RESULT_CAPACITY` (00_scope.md R7): always, on this hardware. -/
def fitsResults (s : State) (n : Nat) : Prop := overCapacity s.params.resultCapacity n = false

/-- No batch is open and the transport is alive (41_batch.md R124). -/
structure Idle (s : State) : Prop where
  idle : s.collecting = false
  bufEmpty : s.buf = []
  pendEmpty : s.pend = []
  alive : s.transportDead = false

/-- Idle, with a bus that is not suspect (42_bitbyte.md R148). -/
structure Ready (s : State) : Prop extends Idle s where
  notSuspect : s.busSuspect = false

/-! ## Invariants -/

/-- The SAMPLE elements a pending read has in the batch (10_state.md R29). -/
def pendSize : Pending → Nat
  | .bit _ => 2
  | .byte _ => 16
  | .rst _ => 2

/-- The index of a pending read's first sample (10_state.md R28). -/
def pendFirst : Pending → Nat
  | .bit k => k
  | .byte k => k
  | .rst k => k

/-- The SAMPLE elements of all pending reads (10_state.md R29). -/
def pendSamples : List Pending → Nat
  | [] => 0
  | p :: ps => pendSize p + pendSamples ps

/-- Each pending read starts where the one before it ends, the first at sample n (10_state.md R28). -/
def pendInOrder : Nat → List Pending → Prop
  | _, [] => True
  | n, p :: ps => pendFirst p = n ∧ pendInOrder (n + pendSize p) ps

/-- The batch invariants of 10_state.md R29, with the sample indices of R28. -/
structure BatchInv (s : State) : Prop where
  idleEmpty : s.collecting = false → s.buf = [] ∧ s.pend = []
  samplesCounted : nsamp s.buf = pendSamples s.pend
  inOrder : pendInOrder 0 s.pend

/-- The GPIO words between commands (10_state.md R30, R31; 42_bitbyte.md R141, R142, R160): the data pin is released, the
pullup pin is an output and off unless the transport is dead, and every other bit is 0. -/
structure GpioInv (s : State) : Prop where
  dataLevel : s.level.getLsbD s.cfgDataPin.toNat = true
  dataDir : s.dir.getLsbD s.cfgDataPin.toNat = false
  pullupDir : ∀ q, s.cfgPullup = some q → s.dir.getLsbD q.toNat = true
  pullupLevel : ∀ q, s.cfgPullup = some q → s.transportDead = false → s.level.getLsbD q.toNat = false
  otherPins : ∀ i : Pin, i ≠ s.cfgDataPin → s.cfgPullup ≠ some i →
    s.level.getLsbD i.toNat = false ∧ s.dir.getLsbD i.toNat = false

/-- How many samples a read outcome carries is how many were asked for (20_memory.md R53). -/
def outcomeFits (n : Nat) : ReadOutcome → Prop
  | .bits bs => bs.length = n
  | .timeout => True
  | .usbErr => True

/-- The order of transport calls (20_memory.md R52, R53, R67): no write is empty, and a read stands directly after the
write whose samples it asks for. The first argument is the sample count of a write directly before. -/
def traceInOrder : Option Nat → List Event → Prop
  | _, [] => True
  | _, .setup :: es => traceInOrder none es
  | _, .sleep _ :: es => traceInOrder none es
  | _, .txWrite elems :: es => elems ≠ [] ∧ traceInOrder (some (nsamp elems)) es
  | before, .txRead n o :: es => before = some n ∧ 0 < n ∧ outcomeFits n o ∧ traceInOrder none es

/-- What holds of a session between commands. -/
structure Inv (s : State) : Prop where
  /-- 10_state.md R23. -/
  pullupApart : s.cfgPullup ≠ some s.cfgDataPin
  /-- 10_state.md R28, R29. -/
  batch : BatchInv s
  /-- 93_implementation_defined.md I22. -/
  batchFits : fitsBatch s s.buf.length
  /-- 10_state.md R30, R31. -/
  gpio : GpioInv s
  /-- 10_state.md R35. -/
  crcInWidth : s.crcWidth = .crc8 → s.crcAcc.toNat < 256
  /-- 60_exceptions.md R224. -/
  noDeviceNever : s.lastStatus ≠ .noDevice ∧ ∀ r ∈ s.responses, r.status ≠ .noDevice

/-- Every transport call of a trace is in the order of 20_memory.md R67. -/
def TraceInv (s : State) : Prop := traceInOrder none s.trace

/-! ## The SEARCH stack (44_search.md R199) -/

/-- From the top (the head) to the bottom the lengths strictly decrease, and every length is in 1 to `romBits`, which is
64 on this hardware. -/
def stackInOrder (romBits : Nat) (stack : List (List Bool)) : Prop :=
  (stack.map List.length).Pairwise (fun a b => b < a) ∧ ∀ p ∈ stack, 1 ≤ p.length ∧ p.length ≤ romBits

/-! ## Views of a trace (20_memory.md R55) -/

/-- The bus-level command sequence: the elements of every write, in order. -/
def lineElems : List Event → List Elem
  | [] => []
  | .txWrite elems :: es => elems ++ lineElems es
  | .setup :: es => lineElems es
  | .txRead _ _ :: es => lineElems es
  | .sleep _ :: es => lineElems es

/-- The number of transport flush calls: the `TxWrite` events. -/
def writeCount : List Event → Nat
  | [] => 0
  | .txWrite _ :: es => writeCount es + 1
  | .setup :: es => writeCount es
  | .txRead _ _ :: es => writeCount es
  | .sleep _ :: es => writeCount es

/-- The number of `TxRead` events. -/
def readCount : List Event → Nat
  | [] => 0
  | .txRead _ _ :: es => readCount es + 1
  | .setup :: es => readCount es
  | .txWrite _ :: es => readCount es
  | .sleep _ :: es => readCount es

/-! ## Command lists (41_batch.md R129) -/

/-- The commands that run the same inside and outside a batch. -/
def batchable : Instr → Bool
  | .wbit _ | .rbit | .wbyte _ | .rbyte | .mode _ | .tq _ | .tqn _ | .nop | .rdreg _ => true
  | .crci _ | .crcb _ | .crcr | .crcc => true
  | .beginBatch | .flush | .reset | .pullup _ | .search => false

/-- The samples the reads of a list take. -/
def samplesTaken : List Instr → Nat
  | [] => 0
  | .rbit :: is => 2 + samplesTaken is
  | .rbyte :: is => 16 + samplesTaken is
  | _ :: is => samplesTaken is

/-- The number of bit and byte commands of a list. -/
def slotCommands : List Instr → Nat
  | [] => 0
  | .wbit _ :: is => slotCommands is + 1
  | .rbit :: is => slotCommands is + 1
  | .wbyte _ :: is => slotCommands is + 1
  | .rbyte :: is => slotCommands is + 1
  | _ :: is => slotCommands is

/-- The values that the reads of a list have in the list of responses, in order. -/
def readValues : List Instr → List Response → List Value
  | .rbit :: is, r :: rs => r.values ++ readValues is rs
  | .rbyte :: is, r :: rs => r.values ++ readValues is rs
  | _ :: is, _ :: rs => readValues is rs
  | _, _ => []

/-- Commands run one after the other; none if one of them is refused. -/
def runCommands : List Instr → State → Option State
  | [], s => some s
  | i :: is, s =>
    match exec i s with
    | .next t => runCommands is t
    | .fault _ => none
    | .refused _ => none

/-! ## The ideal bus (44_search.md R203): the devices of D are written as lists of `romBits` bits (64 on this hardware),
bit 0 first -/

/-- The samples of the polls of levels at which every active device has the bit of d: the bit, then its complement, each
sampled twice alike. -/
def forcedPolls (d : List Bool) : List Bool := (d.map fun b => [b, b, !b, !b]).flatten

/-- The devices that are still active at level i of the pass that finds d: those that agree with d below i. -/
def activeAt (D : List (List Bool)) (d : List Bool) (i : Nat) : List (List Bool) :=
  D.filter fun e => e.take i == d.take i

/-- The AND over the active devices of their bit i, and 1 if none is active. -/
def firstPoll (D : List (List Bool)) (d : List Bool) (i : Nat) : Bool :=
  (activeAt D d i).all fun e => e.getD i false

/-- The AND over the active devices of NOT bit i, and 1 if none is active. -/
def secondPoll (D : List (List Bool)) (d : List Bool) (i : Nat) : Bool :=
  (activeAt D d i).all fun e => !e.getD i false

/-- What the ideal bus answers in the pass that finds d: the reset (0, 1), then each level's two read slots, whose two
samples agree. -/
def idealPass (romBits : Nat) (D : List (List Bool)) (d : List Bool) : List Bool :=
  [false, true] ++ ((List.range romBits).map fun i =>
    [firstPoll D d i, firstPoll D d i, secondPoll D d i, secondPoll D d i]).flatten

/-- What the ideal bus answers in a whole search that finds the devices of D in the order of D. -/
def idealSearch (romBits : Nat) (D : List (List Bool)) : List Bool := (D.map (idealPass romBits D)).flatten

/-- Depth-first order with 0 before 1 (44_search.md R198): at the first bit where they differ, d has 0 and e has 1. -/
def searchedBefore (d e : List Bool) : Prop :=
  ∃ i, d.take i = e.take i ∧ d[i]? = some false ∧ e[i]? = some true

/-- The bytes of a ROM code spell the bits of a path: bit k of byte j is bit 8j + k of the path (20_memory.md R58,
44_search.md R196; 90_conflicts.md C2). -/
def spells (code : List Byte) (path : List Bool) : Prop :=
  code.length = (path.length + 7) / 8 ∧
  ∀ j k : Nat, j < code.length → k < 8 → (code.getD j 0#8).getLsbD k = path.getD (8 * j + k) false

/-- A device of the ideal bus: the bits of its code in the order of the search, and the code's bytes. -/
structure Device where
  path : List Bool
  code : List Byte
  deriving DecidableEq, Repr

/-- A device that SEARCH can find where a code has `romBits` bits (44_search.md R203): its code spells its path and
passes the CRC-8. -/
structure Device.Valid (romBits : Nat) (d : Device) : Prop where
  length : d.path.length = romBits
  spelt : spells d.code d.path
  crc : crc8 d.code = 0#8

/-- The events of the pass that finds d on the ideal bus (44_search.md R191, R201): the reset sequence, the search command,
and at each level two read slots and the write slot of d's bit. -/
def idealPassEvents (s : State) (romBits : Nat) (D : List (List Bool)) (d : List Bool) : List Event :=
  [.txWrite (resetElems s), .txRead 2 (.bits [false, true]), .txWrite (writeByteElems s s.params.searchCmd)] ++
    ((List.range romBits).map fun i =>
      [.txWrite (readElems s), .txRead 2 (.bits [firstPoll D d i, firstPoll D d i]),
        .txWrite (readElems s), .txRead 2 (.bits [secondPoll D d i, secondPoll D d i]),
        .txWrite (writeElems s (d.getD i false))]).flatten

end Sys2Proof.Machine
end

