-- ==== Sys2Proof/Certificates/Slice0/Obligations.lean ====
section
/-! DEFINITION. The statements for the provers. -/

open Sys2Proof Sys2Proof.Machine

/-! ## Encoding and the step -/

/-- 95_test_vectors.md V-ENC: words written out from 30_encoding.md R77, and what each decodes to. -/
def Obligations.VectorWordsDecode : Prop :=
  decode 0x00000000#32 = .ok .nop ∧
  decode 0x00000001#32 = .error .mustBeZeroBit ∧
  decode 0x0100000A#32 = .ok (.tq 10#4) ∧
  decode 0x0100000B#32 = .error .operandRange ∧
  decode 0x02FFFFFF#32 = .ok (.tqn 0xFFFFFF#24) ∧
  decode 0x03000001#32 = .ok (.mode .od) ∧
  decode 0x04000000#32 = .error .unassignedOpcode ∧
  decode 0x10000100#32 = .error .mustBeZeroBit ∧
  decode 0x13000044#32 = .ok (.wbyte 0x44#8) ∧
  decode 0x15002710#32 = .ok (.pullup 10000#24) ∧
  decode 0x20000001#32 = .ok (.crci .crc16) ∧
  decode 0x40000005#32 = .ok (.rdreg 5#3) ∧
  decode 0x40000006#32 = .error .operandRange

/-- 30_encoding.md R70-R78: the decoder gives back every well-formed command from the word that encodes it. -/
def Obligations.DecodeOfEncode : Prop :=
  ∀ i : Instr, i.wellFormed = true → decode (encode i) = .ok i

/-- 30_encoding.md R78: a word that decodes is the encoding of a well-formed command, so no bit of it is dropped. -/
def Obligations.EncodeOfDecode : Prop :=
  ∀ (w : Word) (i : Instr), decode w = .ok i → i.wellFormed = true ∧ encode i = w

/-- 30_encoding.md R78: a word decodes exactly when it matches a row and meets the row's value constraint, and no two
rows match the same word. -/
def Obligations.DecodesExactlyTheRows : Prop :=
  ∀ w : Word,
    ((∃ i, decode w = .ok i) ↔
      ∃ row ∈ opcodeRows, w &&& row.format.mask = matchValue row.op ∧
        (row.op = 0x01#8 → w.toNat % 16 ≤ 10) ∧ (row.op = 0x40#8 → w.toNat % 8 ≤ 5)) ∧
    ∀ r₁ ∈ opcodeRows, ∀ r₂ ∈ opcodeRows,
      w &&& r₁.format.mask = matchValue r₁.op → w &&& r₂.format.mask = matchValue r₂.op → r₁.op = r₂.op

/-- 60_exceptions.md R228: an unassigned opcode, a nonzero must-be-0 bit or an operand out of range raises
IllegalCommand with the word, whatever the state, and changes nothing but `S.last_status`. -/
def Obligations.IllegalWordOnlyAnswers : Prop :=
  ∀ (s : State) (w : Word) (rest : List HostInput),
    s.hostQueue = .command w :: rest →
    ((∀ row ∈ opcodeRows, row.op ≠ w.extractLsb' 24 8) ∨
      (∃ row ∈ opcodeRows, row.op = w.extractLsb' 24 8 ∧ w &&& row.format.mask ≠ matchValue row.op) ∨
      (w.extractLsb' 24 8 = 0x01#8 ∧ 10 < w.toNat % 16) ∨
      (w.extractLsb' 24 8 = 0x40#8 ∧ 5 < w.toNat % 8)) →
    step s = .next { s with
      hostQueue := rest
      lastStatus := .illegal
      responses := s.responses ++ [⟨.illegal, [.num w.toNat]⟩] }

/-- 00_scope.md R11, R13: a step carries out the command that the next word decodes to, or INIT; with nothing issued the
engine does nothing (60_exceptions.md R242; log entry 1); and every well-formed command, issued by its word, runs in the
very next step (log entry 1). -/
def Obligations.StepRunsDecodedCommand : Prop :=
  ∀ (s : State) (rest : List HostInput),
    (∀ (w : Word) (i : Instr), s.hostQueue = .command w :: rest → decode w = .ok i →
      step s = exec i { s with hostQueue := rest }) ∧
    (∀ (p : Pin) (q : Option Pin) (od : Bool), s.hostQueue = .init p q od :: rest →
      step s = initEngine p q od { s with hostQueue := rest }) ∧
    (s.hostQueue = [] → step s = .next s) ∧
    (∀ i : Instr, i.wellFormed = true → step (s.withFetchWord 32 (encode i).toNat) = exec i s)

/-! ## INIT -/

/-- 10_state.md R45, 70_reset_and_hazards.md R250, R251: the whole state after an INIT whose transport calls answer OK.
That the host's queue and the scripted answers go on is the model's choice (log entry 4). -/
def Obligations.InitCreatesSession : Prop :=
  ∀ (s : State) (p : Pin) (q : Option Pin) (od : Bool) (rest : List HostInput) (ws : List WriteAnswer),
    s.hostQueue = .init p q od :: rest → q ≠ some p → pinExists s.params p = true →
    (∀ r, q = some r → pinExists s.params r = true) → s.writeAnswers = .ok :: .ok :: ws →
    ∃ level dir : Half,
      (∀ i : Pin, level.getLsbD i.toNat = decide (i = p)) ∧
      (∀ i : Pin, dir.getLsbD i.toNat = decide (q = some i)) ∧
      step s = .next
        { params := s.params
          cfgDataPin := p
          cfgPullup := q
          cfgOdSupported := od
          mode := .std
          collecting := false
          buf := []
          pend := []
          level := level
          dir := dir
          busPhase := .idle
          busSuspect := false
          transportDead := false
          crcAcc := 0#16
          crcWidth := .crc8
          lastStatus := .ok
          trace := [.setup, .txWrite [.gpio level dir]]
          responses := [⟨.ok, []⟩]
          hostQueue := rest
          writeAnswers := ws
          readAnswers := s.readAnswers
          samples := s.samples
          freeDraws := s.freeDraws }

/-- 70_reset_and_hazards.md R251: an INIT whose `Setup` or whose write answers `UsbErr` leaves the reset values but for
`S.transport_dead` = 1, and reports UsbError [1]; R250: one whose pullup pin is its data pin is refused, and so is one
with a pin that a smaller `GPIO_WIDTH` leaves out (log entry 18). That the host's queue and the scripted answers go on is
the model's choice (log entry 4). -/
def Obligations.FailedInitLeavesDeadTransport : Prop :=
  ∀ (s : State) (p : Pin) (q : Option Pin) (od : Bool) (rest : List HostInput) (ws : List WriteAnswer),
    s.hostQueue = .init p q od :: rest →
    (q = some p → step s = .refused .pullupPinIsDataPin) ∧
    (q ≠ some p → (pinExists s.params p = false ∨ ∃ r, q = some r ∧ pinExists s.params r = false) →
      step s = .refused .noSuchPin) ∧
    (q ≠ some p → pinExists s.params p = true → (∀ r, q = some r → pinExists s.params r = true) →
      (s.writeAnswers = .usbErr :: ws → step s = .next
        { State.created s.params p q od with
          transportDead := true
          trace := [.setup]
          responses := [⟨.usb, [.num 1]⟩]
          hostQueue := rest
          writeAnswers := ws
          readAnswers := s.readAnswers
          samples := s.samples
          freeDraws := s.freeDraws }) ∧
      (s.writeAnswers = .ok :: .usbErr :: ws → step s = .next
        { State.created s.params p q od with
          transportDead := true
          trace := [.setup, .txWrite [.gpio (initialLevel p) (initialDir q)]]
          responses := [⟨.usb, [.num 1]⟩]
          hostQueue := rest
          writeAnswers := ws
          readAnswers := s.readAnswers
          samples := s.samples
          freeDraws := s.freeDraws }))

/-- The reset state is the default start state S0 of 95_test_vectors.md (log entry 3): a session that runs INIT with
DATA_PIN 0, no pullup pin and no overdrive, and whose transport answers OK, is in it; and the invariants hold there. -/
def Obligations.ResetIsDefaultInitAndMeetsInvariants : Prop :=
  (∀ rest : List HostInput,
    step { State.reset with hostQueue := .init 0#4 none false :: rest, writeAnswers := [.ok, .ok] } =
      .next { State.reset with hostQueue := rest }) ∧
  Inv State.reset ∧ TraceInv State.reset

/-! ## Registers -/

/-- 40_timing.md R107, 10_state.md R38-R43: what RDREG CONFIG, MODE, STATUS, GPIO, CRC and BATCH return, read before
`S.last_status` is written, field by field, with the numbers of the bus phases (10_state.md R32) and of the status codes (60_exceptions.md
R220). -/
def Obligations.RdregReturnsTheRegister : Prop :=
  ∀ s : State,
    (∃ v : Word,
      exec (.rdreg 0#3) s = .next { s with lastStatus := .ok, responses := s.responses ++ [⟨.ok, [.num v.toNat]⟩] } ∧
      v.extractLsb' 0 4 = s.cfgDataPin ∧ v.extractLsb' 4 4 = s.cfgPullup.getD 0#4 ∧
      v.getLsbD 8 = s.cfgPullup.isSome ∧ v.getLsbD 9 = s.cfgOdSupported ∧ v.extractLsb' 10 22 = 0#22) ∧
    (∃ v : Word,
      exec (.rdreg 1#3) s = .next { s with lastStatus := .ok, responses := s.responses ++ [⟨.ok, [.num v.toNat]⟩] } ∧
      v.getLsbD 0 = decide (s.mode = .od) ∧ v.extractLsb' 1 31 = 0#31) ∧
    (∃ v : Word,
      exec (.rdreg 2#3) s = .next { s with lastStatus := .ok, responses := s.responses ++ [⟨.ok, [.num v.toNat]⟩] } ∧
      v.getLsbD 0 = s.collecting ∧
      v.extractLsb' 1 2 = (match s.busPhase with
        | .idle => 0#2 | .presence => 1#2 | .noPresence => 2#2 | .active => 3#2) ∧
      v.getLsbD 3 = s.busSuspect ∧ v.getLsbD 4 = s.transportDead ∧ v.extractLsb' 5 3 = 0#3 ∧
      v.extractLsb' 8 4 = (match s.lastStatus with
        | .ok => 0#4 | .noDevice => 1#4 | .comms => 2#4 | .crc => 3#4
        | .timeout => 4#4 | .protocol => 5#4 | .usb => 6#4 | .illegal => 7#4) ∧
      v.extractLsb' 12 4 = 0#4 ∧ (v.extractLsb' 16 16).toNat = min s.pend.length 0xFFFF) ∧
    (∃ v : Word,
      exec (.rdreg 3#3) s = .next { s with lastStatus := .ok, responses := s.responses ++ [⟨.ok, [.num v.toNat]⟩] } ∧
      v.extractLsb' 0 16 = s.level ∧ v.extractLsb' 16 16 = s.dir) ∧
    (∃ v : Word,
      exec (.rdreg 4#3) s = .next { s with lastStatus := .ok, responses := s.responses ++ [⟨.ok, [.num v.toNat]⟩] } ∧
      v.extractLsb' 0 16 = s.crcAcc ∧ v.getLsbD 16 = decide (s.crcWidth = .crc16) ∧ v.extractLsb' 17 15 = 0#15) ∧
    (∃ v : Word,
      exec (.rdreg 5#3) s = .next { s with lastStatus := .ok, responses := s.responses ++ [⟨.ok, [.num v.toNat]⟩] } ∧
      v.toNat = min s.buf.length 0xFFFFFFFF)

/-- 30_encoding.md R84 and the error lines of 40_timing.md R103, R107: an operand out of range answers IllegalCommand
with the word that encodes the command (log entry 10). -/
def Obligations.OperandsOutOfRangeAreIllegal : Prop :=
  ∀ s : State,
    (∀ iv : BitVec 4, 10 < iv.toNat → exec (.tq iv) s = .next { s with
      lastStatus := .illegal
      responses := s.responses ++ [⟨.illegal, [.num (0x01000000 + iv.toNat)]⟩] }) ∧
    (∀ r : BitVec 3, 5 < r.toNat → exec (.rdreg r) s = .next { s with
      lastStatus := .illegal
      responses := s.responses ++ [⟨.illegal, [.num (0x40000000 + r.toNat)]⟩] })

/-! ## Timing -/

/-- 40_timing.md R103, 30_encoding.md R90: TQ returns the clock-set command of the interval's length in the mode in force
and changes nothing else; TQ Z is refused while the length of Z is unset in that mode
(93_implementation_defined.md I6). -/
def Obligations.TqReturnsClockSet : Prop :=
  ∀ s : State,
    (∀ (iv : BitVec 4) (interval : Interval) (ns : Nat), intervalOfIndex iv = some interval →
      lengthOf s.params s.mode interval = some ns → exec (.tq iv) s = .next { s with
      lastStatus := .ok
      responses := s.responses ++
        [⟨.ok, [.num 0x86, .num ((divisor s.params ns).toNat % 256), .num ((divisor s.params ns).toNat / 256)]⟩] }) ∧
    ((tableOf s.params s.mode).z = none → exec (.tq 10#4) s = .refused .intervalUnset)

/-- 40_timing.md R103, R110: the divisors TQ A to TQ J return on this hardware, in each mode (the lengths and the base
clock are the spec's general knowledge; log entry 16). -/
def Obligations.TqReturnsHardwareDivisors : Prop :=
  ∀ s : State, s.params = hardwareParams →
    ∀ row ∈ ([(0, 89, 14), (1, 959, 112), (2, 899, 112), (3, 149, 37), (4, 134, 14), (5, 824, 104), (6, 0, 37),
        (7, 7199, 1049), (8, 1049, 127), (9, 6149, 599)] : List (Nat × Nat × Nat)),
      ∃ d : Nat, d = (match s.mode with | .std => row.2.1 | .od => row.2.2) ∧
        exec (.tq (BitVec.ofNat 4 row.1)) s = .next { s with
          lastStatus := .ok
          responses := s.responses ++ [⟨.ok, [.num 0x86, .num (d % 256), .num (d / 256)]⟩] }

/-- 40_timing.md R105, R100: TQN returns the clock-set command of u nanoseconds and changes nothing else. The divisor is that
of the arithmetic `DIVISOR_ARITH` selects (40_timing.md R109 for binary64); on this hardware it is
`(ceil(3·u/200) − 1) mod 65536`, and 0 for u = 0 (the base clock and the framing of 30_encoding.md R90 are the spec's
general knowledge; log entry 16). -/
def Obligations.TqnReturnsClockSet : Prop :=
  ∀ (s : State) (u : BitVec 24),
    ∃ d : Nat, d = (match s.params.divisorArith with
        | .exact => (divExact s.params.divWidth s.params.baseClockHz u.toNat).toNat
        | .ieee => (divIeee s.params.divWidth s.params.baseClockHz u.toNat).toNat) ∧
      d = (divisor s.params u.toNat).toNat ∧
      (s.params = hardwareParams → d = if u.toNat = 0 then 0 else ((3 * u.toNat + 199) / 200 - 1) % 65536) ∧
      exec (.tqn u) s = .next { s with
        lastStatus := .ok
        responses := s.responses ++ [⟨.ok, [.num 0x86, .num (d % 256), .num (d / 256)]⟩] }

/-- 40_timing.md R100: the divisor is one less than the least integer not below BASE·ns/2e9, modulo 2 to the divisor
width, which is 16 on this hardware. -/
def Obligations.DivisorIsLeastCeiling : Prop :=
  ∀ width base ns : Nat, width ≤ 16 → 0 < base → divExact width base 0 = 0#16 ∧ (0 < ns →
    ∃ k : Nat, 0 < k ∧ base * ns ≤ 2000000000 * k ∧ (∀ j : Nat, base * ns ≤ 2000000000 * j → k ≤ j) ∧
      (divExact width base ns).toNat = (k - 1) % 2 ^ width)

/-- 40_timing.md R109: on the tables of R101 the binary64 divisor is the exact one but at standard A, D and F and at
overdrive J, where it is 90, 150, 825 and 600 and the exact one 89, 149, 824 and 599. That the seconds are the binary64
number nearest to the length is deduced (log entry 8). -/
def Obligations.BinaryDivisorDiffersAtFour : Prop :=
  (divIeee 16 30000000 6000 = 90#16 ∧ divExact 16 30000000 6000 = 89#16) ∧
  (divIeee 16 30000000 10000 = 150#16 ∧ divExact 16 30000000 10000 = 149#16) ∧
  (divIeee 16 30000000 55000 = 825#16 ∧ divExact 16 30000000 55000 = 824#16) ∧
  (divIeee 16 30000000 40000 = 600#16 ∧ divExact 16 30000000 40000 = 599#16) ∧
  ∀ ns ∈ [64000, 60000, 9000, 0, 480000, 70000, 410000, 1000, 7500, 2500, 7000, 8500],
    divIeee 16 30000000 ns = divExact 16 30000000 ns

/-- 40_timing.md R104, R106: NOP changes nothing but `S.last_status`; MODE sets the mode and nothing else, or answers
reason 7 and changes nothing. -/
def Obligations.NopAndModeAnswer : Prop :=
  ∀ s : State,
    exec .nop s = .next { s with lastStatus := .ok, responses := s.responses ++ [⟨.ok, []⟩] } ∧
    (∀ m : Mode, m = .std ∨ s.cfgOdSupported = true → exec (.mode m) s = .next { s with
      mode := m
      lastStatus := .ok
      responses := s.responses ++ [⟨.ok, []⟩] }) ∧
    (s.cfgOdSupported = false → exec (.mode .od) s = .next { s with
      lastStatus := .protocol
      responses := s.responses ++ [⟨.protocol, [.num 7]⟩] })

/-! ## The command batch -/

/-- 41_batch.md R126: BEGIN opens a batch, or answers reason 1 and leaves the open batch as it is. -/
def Obligations.BeginOpensBatch : Prop :=
  ∀ s : State,
    (s.collecting = false → exec .beginBatch s = .next { s with
      collecting := true
      lastStatus := .ok
      responses := s.responses ++ [⟨.ok, []⟩] }) ∧
    (s.collecting = true → exec .beginBatch s = .next { s with
      lastStatus := .protocol
      responses := s.responses ++ [⟨.protocol, [.num 1]⟩] })

/-- 41_batch.md R127: FLUSH while idle answers reason 2; with a dead transport the batch is discarded (log entry 19); an
empty batch makes no transport call. -/
def Obligations.FlushWithoutTransportCall : Prop :=
  ∀ s : State,
    (s.collecting = false → exec .flush s = .next { s with
      lastStatus := .protocol
      responses := s.responses ++ [⟨.protocol, [.num 2]⟩] }) ∧
    (s.collecting = true → s.transportDead = true → exec .flush s = .next { s with
      buf := []
      pend := []
      collecting := false
      lastStatus := .usb
      responses := s.responses ++ [⟨.usb, [.num 0]⟩] }) ∧
    (s.collecting = true → s.transportDead = false → s.buf = [] → exec .flush s = .next { s with
      pend := []
      collecting := false
      lastStatus := .ok
      responses := s.responses ++ [⟨.ok, []⟩] })

/-- 41_batch.md R123, R127: FLUSH of a batch with samples makes one write of the whole buffer and one read of all its
samples, and returns the value of every pending read in token order; without samples it makes the write only. -/
def Obligations.FlushReturnsPendingValues : Prop :=
  ∀ (s : State) (ws : List WriteAnswer),
    s.collecting = true → s.transportDead = false → s.buf ≠ [] → s.writeAnswers = .ok :: ws →
    (∀ (rs : List ReadKind) (bs rest : List Bool),
      0 < nsamp s.buf → bs.length = nsamp s.buf → s.readAnswers = .bits :: rs → s.samples = bs ++ rest →
      exec .flush s = .next { s with
        buf := []
        pend := []
        collecting := false
        trace := s.trace ++ [.txWrite s.buf, .txRead (nsamp s.buf) (.bits bs)]
        writeAnswers := ws
        readAnswers := rs
        samples := rest
        lastStatus := .ok
        responses := s.responses ++ [⟨.ok, s.pend.map fun p => .num (resolve bs p)⟩] }) ∧
    (nsamp s.buf = 0 → exec .flush s = .next { s with
      buf := []
      pend := []
      collecting := false
      trace := s.trace ++ [.txWrite s.buf]
      writeAnswers := ws
      lastStatus := .ok
      responses := s.responses ++ [⟨.ok, []⟩] })

/-- 41_batch.md R123: how a pending read gets its value from the samples (42_bitbyte.md R155: the first of each slot;
R149: no device only if both samples are 1). -/
def Obligations.ResolveTakesFirstSamples : Prop :=
  ∀ (before after : List Bool),
    (∀ a b : Bool, resolve (before ++ [a, b] ++ after) (.bit before.length) = a.toNat) ∧
    (∀ a b : Bool, resolve (before ++ [a, b] ++ after) (.rst before.length) = if a = true ∧ b = true then 0 else 1) ∧
    (∀ d x : Byte,
      resolve (before ++ ((List.range 8).map fun j => [d.getLsbD j, x.getLsbD j]).flatten ++ after)
        (.byte before.length) = d.toNat)

/-- 41_batch.md R123, 60_exceptions.md R222: how a FLUSH fails. The batch is already cleared, no pending read gets a
value, and the flag of the error is set. -/
def Obligations.FlushFailureLosesBatch : Prop :=
  ∀ (s : State) (ws : List WriteAnswer),
    s.collecting = true → s.transportDead = false → s.buf ≠ [] →
    (s.writeAnswers = .usbErr :: ws → exec .flush s = .next { s with
      buf := []
      pend := []
      collecting := false
      transportDead := true
      trace := s.trace ++ [.txWrite s.buf]
      writeAnswers := ws
      lastStatus := .usb
      responses := s.responses ++ [⟨.usb, [.num 1]⟩] }) ∧
    (∀ rs : List ReadKind, s.writeAnswers = .ok :: ws → 0 < nsamp s.buf →
      (s.readAnswers = .usbErr :: rs → exec .flush s = .next { s with
        buf := []
        pend := []
        collecting := false
        transportDead := true
        trace := s.trace ++ [.txWrite s.buf, .txRead (nsamp s.buf) .usbErr]
        writeAnswers := ws
        readAnswers := rs
        lastStatus := .usb
        responses := s.responses ++ [⟨.usb, [.num 2]⟩] }) ∧
      (s.readAnswers = .timeout :: rs → exec .flush s = .next { s with
        buf := []
        pend := []
        collecting := false
        busSuspect := true
        trace := s.trace ++ [.txWrite s.buf, .txRead (nsamp s.buf) .timeout]
        writeAnswers := ws
        readAnswers := rs
        lastStatus := .timeout
        responses := s.responses ++ [⟨.timeout, [.num (nsamp s.buf)]⟩] }))

/-- 41_batch.md R124, R128; 42_bitbyte.md R152-R158: inside an explicit batch WBIT, RBIT, WBYTE and RBYTE only append, a
read answers its token, and nothing reaches the transport; one whose elements do not fit into a bounded batch is refused
(93_implementation_defined.md I22). -/
def Obligations.OpenBatchCollects : Prop :=
  ∀ (s : State) (c : SlotCommand), s.collecting = true → s.busSuspect = false →
    (fitsBatch s (s.buf.length + c.total) → exec c.instr s = .next { s with
      buf := s.buf ++ c.elems s
      pend := s.pend ++ c.pending (nsamp s.buf)
      level := setPin s.level s.cfgDataPin true
      dir := setPin s.dir s.cfgDataPin false
      busPhase := .active
      lastStatus := .ok
      responses := s.responses ++ [⟨.ok, (c.pending (nsamp s.buf)).map fun _ => .token s.pend.length⟩] }) ∧
    (¬fitsBatch s (s.buf.length + c.total) → exec c.instr s = .refused .batchFull)

/-- 41_batch.md R125: how many elements of each kind WBIT, RBIT, WBYTE and RBYTE append to an open batch, how many samples
they add, and how many elements of each kind the one write of a reset sequence has, in either mode. -/
def Obligations.ElementCounts : Prop :=
  (∀ (s : State) (c : SlotCommand), s.collecting = true → s.busSuspect = false →
    fitsBatch s (s.buf.length + c.total) →
    ∃ (t : State) (es : List Elem), exec c.instr s = .next t ∧ t.buf = s.buf ++ es ∧ elemKinds es = c.counts ∧
      es.length = c.total ∧ nsamp t.buf = nsamp s.buf + c.sampleCount) ∧
  (∀ (s : State) (ws : List WriteAnswer) (rs : List ReadKind) (rest : List Bool), Idle s → fitsBatch s 7 →
    s.writeAnswers = .ok :: ws → s.readAnswers = .bits :: rs → s.samples = false :: true :: rest →
    ∃ (t : State) (es : List Elem), exec .reset s = .next t ∧
      t.trace = s.trace ++ [.txWrite es, .txRead 2 (.bits [false, true])] ∧ elemKinds es = (2, 3, 2) ∧ es.length = 7)

/-! ## Time slots -/

/-- 40_timing.md R102, 42_bitbyte.md R140, R141, R144-R147, 95_test_vectors.md W-10: the line elements of a write slot, a
read slot and a reset sequence, in any state. A delay is of the interval, of the mode in force, with the divisor of that
mode's length of the interval; driving low and releasing set the data pin's bits and leave every other pin's. WBIT and RBIT
append exactly these to an open batch, and RESET writes them. On this hardware the divisors are those of 40_timing.md R110
(the base clock and the tables are the spec's general knowledge; log entry 16). -/
def Obligations.SlotsFollowTheTables : Prop :=
  (∀ (v : Half) (p i : Pin) (b : Bool),
    (setPin v p b).getLsbD i.toNat = if i = p then b else v.getLsbD i.toNat) ∧
  ∀ (s : State) (T : IntervalTable) (low rel : Elem) (wait : Interval → Nat → Elem),
    T = (match s.mode with | .std => s.params.tStd | .od => s.params.tOd) →
    low = .gpio (setPin s.level s.cfgDataPin false) (setPin s.dir s.cfgDataPin true) →
    rel = .gpio (setPin s.level s.cfgDataPin true) (setPin s.dir s.cfgDataPin false) →
    wait = (fun iv ns => .delay iv s.mode (divisor s.params ns)) →
    (writeElems s true = [low, wait .a T.a, rel, wait .b T.b] ∧
      writeElems s false = [low, wait .c T.c, rel, wait .d T.d] ∧
      readElems s = [low, wait .a T.a, rel, wait .e T.e, .sample, wait .f T.f, .sample] ∧
      resetElems s = [low, wait .h T.h, rel, wait .i T.i, .sample, wait .j T.j, .sample]) ∧
    (s.collecting = true → s.busSuspect = false → fitsBatch s (s.buf.length + 7) →
      (∃ t, exec (.wbit true) s = .next t ∧ t.buf = s.buf ++ [low, wait .a T.a, rel, wait .b T.b]) ∧
      (∃ t, exec (.wbit false) s = .next t ∧ t.buf = s.buf ++ [low, wait .c T.c, rel, wait .d T.d]) ∧
      (∃ t, exec .rbit s = .next t ∧
        t.buf = s.buf ++ [low, wait .a T.a, rel, wait .e T.e, .sample, wait .f T.f, .sample])) ∧
    (∀ (ws : List WriteAnswer) (rs : List ReadKind) (rest : List Bool), Idle s → fitsBatch s 7 →
      s.writeAnswers = .ok :: ws → s.readAnswers = .bits :: rs → s.samples = false :: true :: rest →
      ∃ t, exec .reset s = .next t ∧ t.trace = s.trace ++
        [.txWrite [low, wait .h T.h, rel, wait .i T.i, .sample, wait .j T.j, .sample],
          .txRead 2 (.bits [false, true])]) ∧
    (s.params = hardwareParams →
      ∀ row ∈ [(T.a, 89, 14), (T.b, 959, 112), (T.c, 899, 112), (T.d, 149, 37), (T.e, 134, 14), (T.f, 824, 104),
          (T.g, 0, 37), (T.h, 7199, 1049), (T.i, 1049, 127), (T.j, 6149, 599)],
        (divisor s.params row.1).toNat = (match s.mode with | .std => row.2.1 | .od => row.2.2))

/-! ## Bits and bytes -/

/-- 42_bitbyte.md R144, R145, R152, R156: WBIT and WBYTE outside a batch make one write of their slots. -/
def Obligations.UnbatchedWriteIsOneCall : Prop :=
  ∀ (s : State) (ws : List WriteAnswer), Ready s → s.writeAnswers = .ok :: ws →
    (∀ b : Bool, fitsBatch s 4 → exec (.wbit b) s = .next { s with
      level := setPin s.level s.cfgDataPin true
      dir := setPin s.dir s.cfgDataPin false
      busPhase := .active
      trace := s.trace ++ [.txWrite (writeElems s b)]
      writeAnswers := ws
      lastStatus := .ok
      responses := s.responses ++ [⟨.ok, []⟩] }) ∧
    (∀ d : Byte, fitsBatch s 32 → exec (.wbyte d) s = .next { s with
      level := setPin s.level s.cfgDataPin true
      dir := setPin s.dir s.cfgDataPin false
      busPhase := .active
      trace := s.trace ++ [.txWrite (writeByteElems s d)]
      writeAnswers := ws
      lastStatus := .ok
      responses := s.responses ++ [⟨.ok, []⟩] })

/-- 42_bitbyte.md R146, R154, R155: RBIT outside a batch makes one write and one read of two samples and returns the
first of them. -/
def Obligations.UnbatchedReadBitReturnsFirstSample : Prop :=
  ∀ (s : State) (ws : List WriteAnswer) (rs : List ReadKind) (a b : Bool) (rest : List Bool), Ready s →
    fitsBatch s 7 → s.writeAnswers = .ok :: ws → s.readAnswers = .bits :: rs → s.samples = a :: b :: rest →
    exec .rbit s = .next { s with
      level := setPin s.level s.cfgDataPin true
      dir := setPin s.dir s.cfgDataPin false
      busPhase := .active
      trace := s.trace ++ [.txWrite (readElems s), .txRead 2 (.bits [a, b])]
      writeAnswers := ws
      readAnswers := rs
      samples := rest
      lastStatus := .ok
      responses := s.responses ++ [⟨.ok, [.num a.toNat]⟩] }

/-- 42_bitbyte.md R158: RBYTE outside a batch makes one write of 56 elements and one read of 16 samples and returns the
byte whose bit j is the first sample of slot j. -/
def Obligations.UnbatchedReadByteReturnsFirstSamples : Prop :=
  ∀ (s : State) (ws : List WriteAnswer) (rs : List ReadKind) (d x : Byte) (rest : List Bool), Ready s →
    fitsBatch s 56 → s.writeAnswers = .ok :: ws → s.readAnswers = .bits :: rs →
    s.samples = ((List.range 8).map fun j => [d.getLsbD j, x.getLsbD j]).flatten ++ rest →
    exec .rbyte s = .next { s with
      level := setPin s.level s.cfgDataPin true
      dir := setPin s.dir s.cfgDataPin false
      busPhase := .active
      trace := s.trace ++ [.txWrite (readByteElems s),
        .txRead 16 (.bits ((List.range 8).map fun j => [d.getLsbD j, x.getLsbD j]).flatten)]
      writeAnswers := ws
      readAnswers := rs
      samples := rest
      lastStatus := .ok
      responses := s.responses ++ [⟨.ok, [.num d.toNat]⟩] }

/-- 41_batch.md R123, R124, 60_exceptions.md R227: how WBIT, RBIT, WBYTE and RBYTE fail outside a batch: a dead transport
changes nothing, also on a suspect bus (60_exceptions.md R231; log entry 9), a failed write or read sets its flag after the
slots were emitted, and one whose slots do not fit into a bounded batch is refused (93_implementation_defined.md I22). -/
def Obligations.UnbatchedSlotFailures : Prop :=
  ∀ (s : State) (c : SlotCommand), s.collecting = false → s.buf = [] → s.pend = [] →
    (s.transportDead = true → exec c.instr s = .next { s with
      lastStatus := .usb
      responses := s.responses ++ [⟨.usb, [.num 0]⟩] }) ∧
    (s.transportDead = false → s.busSuspect = false → ¬fitsBatch s c.total →
      exec c.instr s = .refused .batchFull) ∧
    (s.transportDead = false → s.busSuspect = false → fitsBatch s c.total → ∀ ws : List WriteAnswer,
      (s.writeAnswers = .usbErr :: ws → exec c.instr s = .next { s with
        level := setPin s.level s.cfgDataPin true
        dir := setPin s.dir s.cfgDataPin false
        busPhase := .active
        transportDead := true
        trace := s.trace ++ [.txWrite (c.elems s)]
        writeAnswers := ws
        lastStatus := .usb
        responses := s.responses ++ [⟨.usb, [.num 1]⟩] }) ∧
      (∀ rs : List ReadKind, s.writeAnswers = .ok :: ws → 0 < c.sampleCount →
        (s.readAnswers = .usbErr :: rs → exec c.instr s = .next { s with
          level := setPin s.level s.cfgDataPin true
          dir := setPin s.dir s.cfgDataPin false
          busPhase := .active
          transportDead := true
          trace := s.trace ++ [.txWrite (c.elems s), .txRead c.sampleCount .usbErr]
          writeAnswers := ws
          readAnswers := rs
          lastStatus := .usb
          responses := s.responses ++ [⟨.usb, [.num 2]⟩] }) ∧
        (s.readAnswers = .timeout :: rs → exec c.instr s = .next { s with
          level := setPin s.level s.cfgDataPin true
          dir := setPin s.dir s.cfgDataPin false
          busPhase := .active
          busSuspect := true
          trace := s.trace ++ [.txWrite (c.elems s), .txRead c.sampleCount .timeout]
          writeAnswers := ws
          readAnswers := rs
          lastStatus := .timeout
          responses := s.responses ++ [⟨.timeout, [.num c.sampleCount]⟩] })))

/-- 42_bitbyte.md R148, 60_exceptions.md R231: WBIT, RBIT, WBYTE, RBYTE and PULLUP are refused on a suspect bus, after
the errors that come before it in the order of R231 (log entry 9). -/
def Obligations.SuspectBusRefusesSlots : Prop :=
  ∀ s : State, s.busSuspect = true → (s.collecting = true ∨ s.transportDead = false) →
    (∀ c : SlotCommand, exec c.instr s = .refused .busSuspect) ∧
    (∀ u : BitVec 24, s.collecting = true → s.pend = [] → s.transportDead = false →
      exec (.pullup u) s = .refused .busSuspect)

/-! ## Reset -/

/-- 42_bitbyte.md R147, R149-R151: RESET in standard speed runs exactly one sequence and returns 0 only if both samples
are 1. -/
def Obligations.StandardResetDetectsPresence : Prop :=
  ∀ (s : State) (ws : List WriteAnswer) (rs : List ReadKind) (a b : Bool) (rest : List Bool), Idle s → s.mode = .std →
    fitsBatch s 7 → s.writeAnswers = .ok :: ws → s.readAnswers = .bits :: rs → s.samples = a :: b :: rest →
    exec .reset s = .next { s with
      level := setPin s.level s.cfgDataPin true
      dir := setPin s.dir s.cfgDataPin false
      busPhase := if a = true ∧ b = true then .noPresence else .presence
      busSuspect := false
      trace := s.trace ++ [.txWrite (resetElems s), .txRead 2 (.bits [a, b])]
      writeAnswers := ws
      readAnswers := rs
      samples := rest
      lastStatus := .ok
      responses := s.responses ++ [⟨.ok, [.num (if a = true ∧ b = true then 0 else 1)]⟩] }

/-- 42_bitbyte.md R150: RESET in overdrive keeps the mode where it sees presence, and otherwise falls back to standard
speed and retries once. -/
def Obligations.OverdriveResetFallsBackOnce : Prop :=
  ∀ (s : State), Idle s → s.mode = .od → fitsBatch s 7 →
    (∀ (ws : List WriteAnswer) (rs : List ReadKind) (a b : Bool) (rest : List Bool), ¬(a = true ∧ b = true) →
      s.writeAnswers = .ok :: ws → s.readAnswers = .bits :: rs → s.samples = a :: b :: rest →
      exec .reset s = .next { s with
        level := setPin s.level s.cfgDataPin true
        dir := setPin s.dir s.cfgDataPin false
        busPhase := .presence
        busSuspect := false
        trace := s.trace ++ [.txWrite (resetElems s), .txRead 2 (.bits [a, b])]
        writeAnswers := ws
        readAnswers := rs
        samples := rest
        lastStatus := .ok
        responses := s.responses ++ [⟨.ok, [.num 1]⟩] }) ∧
    (∀ (ws : List WriteAnswer) (rs : List ReadKind) (a b : Bool) (rest : List Bool),
      s.writeAnswers = .ok :: .ok :: ws → s.readAnswers = .bits :: .bits :: rs →
      s.samples = true :: true :: a :: b :: rest →
      exec .reset s = .next { s with
        mode := .std
        level := setPin s.level s.cfgDataPin true
        dir := setPin s.dir s.cfgDataPin false
        busPhase := if a = true ∧ b = true then .noPresence else .presence
        busSuspect := false
        trace := s.trace ++ [.txWrite (resetElems s), .txRead 2 (.bits [true, true]),
          .txWrite (resetElems { s with mode := .std }), .txRead 2 (.bits [a, b])]
        writeAnswers := ws
        readAnswers := rs
        samples := rest
        lastStatus := .ok
        responses := s.responses ++ [⟨.ok, [.num (if a = true ∧ b = true then 0 else 1)]⟩] })

/-- 42_bitbyte.md R150, 60_exceptions.md R222: how RESET fails: inside a batch and with a dead transport nothing changes;
an error of the first sequence leaves the mode, one of the retry leaves standard speed, neither writes the bus phase, and
only a completed sequence clears the suspect flag; one whose elements do not fit into a bounded batch is refused
(93_implementation_defined.md I22). -/
def Obligations.ResetFailures : Prop :=
  ∀ s : State,
    (s.collecting = true → exec .reset s = .next { s with
      lastStatus := .protocol
      responses := s.responses ++ [⟨.protocol, [.num 3]⟩] }) ∧
    (s.collecting = false → s.transportDead = true → exec .reset s = .next { s with
      lastStatus := .usb
      responses := s.responses ++ [⟨.usb, [.num 0]⟩] }) ∧
    (Idle s → ¬fitsBatch s 7 → exec .reset s = .refused .batchFull) ∧
    (Idle s → fitsBatch s 7 → ∀ (ws : List WriteAnswer) (rs : List ReadKind),
      (s.writeAnswers = .usbErr :: ws → exec .reset s = .next { s with
        level := setPin s.level s.cfgDataPin true
        dir := setPin s.dir s.cfgDataPin false
        transportDead := true
        trace := s.trace ++ [.txWrite (resetElems s)]
        writeAnswers := ws
        lastStatus := .usb
        responses := s.responses ++ [⟨.usb, [.num 1]⟩] }) ∧
      (s.writeAnswers = .ok :: ws → s.readAnswers = .usbErr :: rs → exec .reset s = .next { s with
        level := setPin s.level s.cfgDataPin true
        dir := setPin s.dir s.cfgDataPin false
        transportDead := true
        trace := s.trace ++ [.txWrite (resetElems s), .txRead 2 .usbErr]
        writeAnswers := ws
        readAnswers := rs
        lastStatus := .usb
        responses := s.responses ++ [⟨.usb, [.num 2]⟩] }) ∧
      (s.writeAnswers = .ok :: ws → s.readAnswers = .timeout :: rs → exec .reset s = .next { s with
        level := setPin s.level s.cfgDataPin true
        dir := setPin s.dir s.cfgDataPin false
        busSuspect := true
        trace := s.trace ++ [.txWrite (resetElems s), .txRead 2 .timeout]
        writeAnswers := ws
        readAnswers := rs
        lastStatus := .timeout
        responses := s.responses ++ [⟨.timeout, [.num 2]⟩] }) ∧
      (∀ rest : List Bool, s.mode = .od → s.samples = true :: true :: rest →
        (s.writeAnswers = .ok :: .usbErr :: ws → s.readAnswers = .bits :: rs → exec .reset s = .next { s with
          mode := .std
          level := setPin s.level s.cfgDataPin true
          dir := setPin s.dir s.cfgDataPin false
          busSuspect := false
          transportDead := true
          trace := s.trace ++ [.txWrite (resetElems s), .txRead 2 (.bits [true, true]),
            .txWrite (resetElems { s with mode := .std })]
          writeAnswers := ws
          readAnswers := rs
          samples := rest
          lastStatus := .usb
          responses := s.responses ++ [⟨.usb, [.num 1]⟩] }) ∧
        (s.writeAnswers = .ok :: .ok :: ws → s.readAnswers = .bits :: .usbErr :: rs → exec .reset s = .next { s with
          mode := .std
          level := setPin s.level s.cfgDataPin true
          dir := setPin s.dir s.cfgDataPin false
          busSuspect := false
          transportDead := true
          trace := s.trace ++ [.txWrite (resetElems s), .txRead 2 (.bits [true, true]),
            .txWrite (resetElems { s with mode := .std }), .txRead 2 .usbErr]
          writeAnswers := ws
          readAnswers := rs
          samples := rest
          lastStatus := .usb
          responses := s.responses ++ [⟨.usb, [.num 2]⟩] }) ∧
        (s.writeAnswers = .ok :: .ok :: ws → s.readAnswers = .bits :: .timeout :: rs → exec .reset s = .next { s with
          mode := .std
          level := setPin s.level s.cfgDataPin true
          dir := setPin s.dir s.cfgDataPin false
          busSuspect := true
          trace := s.trace ++ [.txWrite (resetElems s), .txRead 2 (.bits [true, true]),
            .txWrite (resetElems { s with mode := .std }), .txRead 2 .timeout]
          writeAnswers := ws
          readAnswers := rs
          samples := rest
          lastStatus := .timeout
          responses := s.responses ++ [⟨.timeout, [.num 2]⟩] })))

/-! ## Strong pullup -/

/-- 42_bitbyte.md R160, 60_exceptions.md R229: PULLUP with no open batch answers reason 5, with pending reads reason 6;
with a dead transport the batch is discarded (log entry 19), also on a suspect bus (60_exceptions.md R231; log entry 9);
44_search.md R190: SEARCH inside a batch answers reason 4, with a dead transport UsbError [0]. No event is recorded. -/
def Obligations.PullupAndSearchMisuse : Prop :=
  ∀ (s : State) (u : BitVec 24),
    (s.collecting = true → exec .search s = .next { s with
      lastStatus := .protocol
      responses := s.responses ++ [⟨.protocol, [.num 4]⟩] }) ∧
    (s.collecting = false → s.transportDead = true → exec .search s = .next { s with
      lastStatus := .usb
      responses := s.responses ++ [⟨.usb, [.num 0]⟩] }) ∧
    (s.collecting = false → exec (.pullup u) s = .next { s with
      lastStatus := .protocol
      responses := s.responses ++ [⟨.protocol, [.num 5]⟩] }) ∧
    (s.collecting = true → s.pend ≠ [] → exec (.pullup u) s = .next { s with
      lastStatus := .protocol
      responses := s.responses ++ [⟨.protocol, [.num 6]⟩] }) ∧
    (s.collecting = true → s.pend = [] → s.transportDead = true → exec (.pullup u) s = .next { s with
      buf := []
      collecting := false
      lastStatus := .usb
      responses := s.responses ++ [⟨.usb, [.num 0]⟩] })

/-- 42_bitbyte.md R160, 70_reset_and_hazards.md R263: PULLUP with a pullup pin raises it in the write of the open batch,
sleeps, lowers it in a write of its own, reads one byte and returns it. -/
def Obligations.PullupWithPinDrivesIt : Prop :=
  ∀ (s : State) (u : BitVec 24) (q : Pin) (ws : List WriteAnswer) (rs : List ReadKind) (d x : Byte) (rest : List Bool),
    s.collecting = true → s.pend = [] → nsamp s.buf = 0 → s.transportDead = false → s.busSuspect = false →
    fitsBatch s (s.buf.length + 1) → fitsBatch s 56 → s.cfgPullup = some q →
    s.writeAnswers = .ok :: .ok :: .ok :: ws → s.readAnswers = .bits :: rs →
    s.samples = ((List.range 8).map fun j => [d.getLsbD j, x.getLsbD j]).flatten ++ rest →
    exec (.pullup u) s = .next { s with
      buf := []
      collecting := false
      level := setPin (setPin s.level q false) s.cfgDataPin true
      dir := setPin s.dir s.cfgDataPin false
      busPhase := .active
      trace := s.trace ++ [.txWrite (s.buf ++ [.gpio (setPin s.level q true) s.dir]), .sleep u.toNat,
        .txWrite [.gpio (setPin s.level q false) s.dir],
        .txWrite (readByteElems { s with level := setPin s.level q false }),
        .txRead 16 (.bits ((List.range 8).map fun j => [d.getLsbD j, x.getLsbD j]).flatten)]
      writeAnswers := ws
      readAnswers := rs
      samples := rest
      lastStatus := .ok
      responses := s.responses ++ [⟨.ok, [.num d.toNat]⟩] }

/-- 42_bitbyte.md R160: PULLUP without a pullup pin flushes the open batch (no call where it is empty), sleeps, reads one
byte and returns it. -/
def Obligations.PullupWithoutPinFlushesAndSleeps : Prop :=
  ∀ (s : State) (u : BitVec 24) (ws : List WriteAnswer) (rs : List ReadKind) (d x : Byte) (rest : List Bool),
    s.collecting = true → s.pend = [] → nsamp s.buf = 0 → s.transportDead = false → s.busSuspect = false →
    fitsBatch s 56 → s.cfgPullup = none → s.writeAnswers = (if s.buf = [] then [.ok] else [.ok, .ok]) ++ ws →
    s.readAnswers = .bits :: rs →
    s.samples = ((List.range 8).map fun j => [d.getLsbD j, x.getLsbD j]).flatten ++ rest →
    exec (.pullup u) s = .next { s with
      buf := []
      collecting := false
      level := setPin s.level s.cfgDataPin true
      dir := setPin s.dir s.cfgDataPin false
      busPhase := .active
      trace := s.trace ++ (if s.buf = [] then [] else [.txWrite s.buf]) ++ [.sleep u.toNat,
        .txWrite (readByteElems s),
        .txRead 16 (.bits ((List.range 8).map fun j => [d.getLsbD j, x.getLsbD j]).flatten)]
      writeAnswers := ws
      readAnswers := rs
      samples := rest
      lastStatus := .ok
      responses := s.responses ++ [⟨.ok, [.num d.toNat]⟩] }

/-- 42_bitbyte.md R160, 60_exceptions.md R222, 93_implementation_defined.md I10: how PULLUP fails once it runs. With a
pullup pin: where the first write fails the pin's level bit stays 1, and every later failure finds it lowered. The batch is
closed in every case. One whose elements do not fit into a bounded batch is refused (93_implementation_defined.md I22). -/
def Obligations.PullupFailures : Prop :=
  ∀ (s : State) (u : BitVec 24) (ws : List WriteAnswer) (rs : List ReadKind),
    s.collecting = true → s.pend = [] → nsamp s.buf = 0 → s.transportDead = false → s.busSuspect = false →
    (∀ q : Pin, s.cfgPullup = some q → fitsBatch s (s.buf.length + 1) → fitsBatch s 56 →
      (s.writeAnswers = .usbErr :: ws → exec (.pullup u) s = .next { s with
        buf := []
        collecting := false
        level := setPin s.level q true
        transportDead := true
        trace := s.trace ++ [.txWrite (s.buf ++ [.gpio (setPin s.level q true) s.dir])]
        writeAnswers := ws
        lastStatus := .usb
        responses := s.responses ++ [⟨.usb, [.num 1]⟩] }) ∧
      (s.writeAnswers = .ok :: .usbErr :: ws → exec (.pullup u) s = .next { s with
        buf := []
        collecting := false
        level := setPin s.level q false
        transportDead := true
        trace := s.trace ++ [.txWrite (s.buf ++ [.gpio (setPin s.level q true) s.dir]), .sleep u.toNat,
          .txWrite [.gpio (setPin s.level q false) s.dir]]
        writeAnswers := ws
        lastStatus := .usb
        responses := s.responses ++ [⟨.usb, [.num 1]⟩] }) ∧
      (s.writeAnswers = .ok :: .ok :: .usbErr :: ws → exec (.pullup u) s = .next { s with
        buf := []
        collecting := false
        level := setPin (setPin s.level q false) s.cfgDataPin true
        dir := setPin s.dir s.cfgDataPin false
        busPhase := .active
        transportDead := true
        trace := s.trace ++ [.txWrite (s.buf ++ [.gpio (setPin s.level q true) s.dir]), .sleep u.toNat,
          .txWrite [.gpio (setPin s.level q false) s.dir],
          .txWrite (readByteElems { s with level := setPin s.level q false })]
        writeAnswers := ws
        lastStatus := .usb
        responses := s.responses ++ [⟨.usb, [.num 1]⟩] }) ∧
      (s.writeAnswers = .ok :: .ok :: .ok :: ws → s.readAnswers = .usbErr :: rs → exec (.pullup u) s = .next { s with
        buf := []
        collecting := false
        level := setPin (setPin s.level q false) s.cfgDataPin true
        dir := setPin s.dir s.cfgDataPin false
        busPhase := .active
        transportDead := true
        trace := s.trace ++ [.txWrite (s.buf ++ [.gpio (setPin s.level q true) s.dir]), .sleep u.toNat,
          .txWrite [.gpio (setPin s.level q false) s.dir],
          .txWrite (readByteElems { s with level := setPin s.level q false }), .txRead 16 .usbErr]
        writeAnswers := ws
        readAnswers := rs
        lastStatus := .usb
        responses := s.responses ++ [⟨.usb, [.num 2]⟩] }) ∧
      (s.writeAnswers = .ok :: .ok :: .ok :: ws → s.readAnswers = .timeout :: rs → exec (.pullup u) s = .next { s with
        buf := []
        collecting := false
        level := setPin (setPin s.level q false) s.cfgDataPin true
        dir := setPin s.dir s.cfgDataPin false
        busPhase := .active
        busSuspect := true
        trace := s.trace ++ [.txWrite (s.buf ++ [.gpio (setPin s.level q true) s.dir]), .sleep u.toNat,
          .txWrite [.gpio (setPin s.level q false) s.dir],
          .txWrite (readByteElems { s with level := setPin s.level q false }), .txRead 16 .timeout]
        writeAnswers := ws
        readAnswers := rs
        lastStatus := .timeout
        responses := s.responses ++ [⟨.timeout, [.num 16]⟩] })) ∧
    (s.cfgPullup = none → fitsBatch s 56 →
      (s.buf ≠ [] → s.writeAnswers = .usbErr :: ws → exec (.pullup u) s = .next { s with
        buf := []
        collecting := false
        transportDead := true
        trace := s.trace ++ [.txWrite s.buf]
        writeAnswers := ws
        lastStatus := .usb
        responses := s.responses ++ [⟨.usb, [.num 1]⟩] }) ∧
      (s.writeAnswers = (if s.buf = [] then [] else [.ok]) ++ .usbErr :: ws → exec (.pullup u) s = .next { s with
        buf := []
        collecting := false
        level := setPin s.level s.cfgDataPin true
        dir := setPin s.dir s.cfgDataPin false
        busPhase := .active
        transportDead := true
        trace := s.trace ++ (if s.buf = [] then [] else [.txWrite s.buf]) ++ [.sleep u.toNat,
          .txWrite (readByteElems s)]
        writeAnswers := ws
        lastStatus := .usb
        responses := s.responses ++ [⟨.usb, [.num 1]⟩] }) ∧
      (s.writeAnswers = (if s.buf = [] then [.ok] else [.ok, .ok]) ++ ws → s.readAnswers = .usbErr :: rs →
        exec (.pullup u) s = .next { s with
        buf := []
        collecting := false
        level := setPin s.level s.cfgDataPin true
        dir := setPin s.dir s.cfgDataPin false
        busPhase := .active
        transportDead := true
        trace := s.trace ++ (if s.buf = [] then [] else [.txWrite s.buf]) ++ [.sleep u.toNat,
          .txWrite (readByteElems s), .txRead 16 .usbErr]
        writeAnswers := ws
        readAnswers := rs
        lastStatus := .usb
        responses := s.responses ++ [⟨.usb, [.num 2]⟩] }) ∧
      (s.writeAnswers = (if s.buf = [] then [.ok] else [.ok, .ok]) ++ ws → s.readAnswers = .timeout :: rs →
        exec (.pullup u) s = .next { s with
        buf := []
        collecting := false
        level := setPin s.level s.cfgDataPin true
        dir := setPin s.dir s.cfgDataPin false
        busPhase := .active
        busSuspect := true
        trace := s.trace ++ (if s.buf = [] then [] else [.txWrite s.buf]) ++ [.sleep u.toNat,
          .txWrite (readByteElems s), .txRead 16 .timeout]
        writeAnswers := ws
        readAnswers := rs
        lastStatus := .timeout
        responses := s.responses ++ [⟨.timeout, [.num 16]⟩] })) ∧
    (∀ q : Pin, s.cfgPullup = some q → ¬fitsBatch s (s.buf.length + 1) → exec (.pullup u) s = .refused .batchFull) ∧
    (∀ q : Pin, s.cfgPullup = some q → fitsBatch s (s.buf.length + 1) → ¬fitsBatch s 56 →
      s.writeAnswers = .ok :: .ok :: ws → exec (.pullup u) s = .refused .batchFull) ∧
    (s.cfgPullup = none → ¬fitsBatch s 56 → s.writeAnswers = (if s.buf = [] then [] else [.ok]) ++ ws →
      exec (.pullup u) s = .refused .batchFull)

/-! ## CRC -/

/-- 43_crc.md R172, R174-R176: CRCI, CRCB, CRCR and CRCC; each changes the CRC unit and `S.last_status` at most. -/
def Obligations.CrcCommandsAnswer : Prop :=
  ∀ s : State,
    (∀ w : CrcWidth, exec (.crci w) s = .next { s with
      crcWidth := w
      crcAcc := 0#16
      lastStatus := .ok
      responses := s.responses ++ [⟨.ok, []⟩] }) ∧
    (∀ d : Byte, s.crcWidth = .crc8 → exec (.crcb d) s = .next { s with
      crcAcc := 0#8 ++ crcByte poly8 (s.crcAcc.extractLsb' 0 8) d
      lastStatus := .ok
      responses := s.responses ++ [⟨.ok, []⟩] }) ∧
    (∀ d : Byte, s.crcWidth = .crc16 → exec (.crcb d) s = .next { s with
      crcAcc := crcByte poly16 s.crcAcc d
      lastStatus := .ok
      responses := s.responses ++ [⟨.ok, []⟩] }) ∧
    exec .crcr s = .next { s with
      lastStatus := .ok
      responses := s.responses ++ [⟨.ok, [.num s.crcAcc.toNat]⟩] } ∧
    (s.crcAcc = 0#16 → exec .crcc s = .next { s with
      lastStatus := .ok
      responses := s.responses ++ [⟨.ok, []⟩] }) ∧
    (s.crcAcc ≠ 0#16 → exec .crcc s = .next { s with
      lastStatus := .crc
      responses := s.responses ++ [⟨.crc, [.num s.crcAcc.toNat]⟩] })

/-- 43_crc.md R171, R173: the byte update, bit k of the byte against bit 0 of the running value, for both widths. -/
def Obligations.CrcByteUpdate : Prop :=
  (∀ (c : BitVec 8) (d : Byte), crcByte poly8 c d = (List.range 8).foldl (fun (c : BitVec 8) (k : Nat) =>
    if d.getLsbD k ≠ c.getLsbD 0 then (c >>> 1) ^^^ 0x8C#8 else c >>> 1) c) ∧
  (∀ (c : BitVec 16) (d : Byte), crcByte poly16 c d = (List.range 8).foldl (fun (c : BitVec 16) (k : Nat) =>
    if d.getLsbD k ≠ c.getLsbD 0 then (c >>> 1) ^^^ 0xA001#16 else c >>> 1) c)

/-- 30_encoding.md R83, 43_crc.md R179: the commands that CRC8 and CRC16 stand for return the CRC of the message, from any
state, and change only the CRC unit, `S.last_status` and the responses. -/
def Obligations.CrcOfMessageIsReturned : Prop :=
  ∀ (s : State) (w : CrcWidth) (data : List Byte), ∃ acc : Half,
    acc.toNat = (match w with | .crc8 => (crc8 data).toNat | .crc16 => (crc16 data).toNat) ∧
    runCommands (Pseudo.crc w data).expand s = some { s with
      crcWidth := w
      crcAcc := acc
      lastStatus := .ok
      responses := s.responses ++ List.replicate (data.length + 1) ⟨.ok, []⟩ ++ [⟨.ok, [.num acc.toNat]⟩] }

/-- 43_crc.md R177, 20_memory.md R59: a payload followed by its CRC reduces to 0, the CRC-16 low byte first; with both
trailing bytes inverted it reduces to 0xB001. -/
def Obligations.TrailingCrcReducesToZero : Prop :=
  ∀ p : List Byte,
    crc8 (p ++ [crc8 p]) = 0#8 ∧
    crc16 (p ++ [(crc16 p).extractLsb' 0 8, (crc16 p).extractLsb' 8 8]) = 0#16 ∧
    crc16 (p ++ [(crc16 p).extractLsb' 0 8 ^^^ 0xFF#8, (crc16 p).extractLsb' 8 8 ^^^ 0xFF#8]) = 0xB001#16

/-- 43_crc.md R178: flipping any single bit of a message with its trailing CRC gives a nonzero residue. -/
def Obligations.SingleBitFlipIsDetected : Prop :=
  ∀ (p : List Byte) (i : Nat) (k : Fin 8),
    (∀ m : List Byte, m = p ++ [crc8 p] → ∀ d : Byte, m[i]? = some d →
      crc8 (m.set i (d ^^^ (1#8 <<< k.val))) ≠ 0#8) ∧
    (∀ m : List Byte, m = p ++ [(crc16 p).extractLsb' 0 8, (crc16 p).extractLsb' 8 8] →
      ∀ d : Byte, m[i]? = some d → crc16 (m.set i (d ^^^ (1#8 <<< k.val))) ≠ 0#16)

/-! ## ROM search -/

/-- 44_search.md R192-R195, 60_exceptions.md R222: the table of the poll, and what a level of a pass does with it: a
CommsError answers the level and the two poll bits, the empty path gives no code, a bit is written back, and a fork pushes
the path so far followed by 1 and goes on with 0. -/
def Obligations.SearchLevelFollowsThePoll : Prop :=
  (∀ (P : List Bool) (i : Nat),
    (∀ b : Bool, P[i]? = some b →
      chooseLevel P i false true = (if b = false then .take false else .comms) ∧
      chooseLevel P i true false = (if b = true then .take true else .comms) ∧
      chooseLevel P i false false = .take b ∧
      chooseLevel P i true true = .comms) ∧
    (P.length ≤ i →
      chooseLevel P i false true = .take false ∧
      chooseLevel P i true false = .take true ∧
      chooseLevel P i false false = .fork ∧
      chooseLevel P i true true = (if P = [] ∧ i = 0 then .pathEmpty else .comms))) ∧
  (∀ (s u : State) (P cur : List Bool) (n : Nat) (stack : List (List Bool)) (a x c y : Bool) (ws : List WriteAnswer)
      (rs : List ReadKind) (rest : List Bool), Idle s → fitsBatch s 7 →
    s.writeAnswers = .ok :: .ok :: ws → s.readAnswers = .bits :: .bits :: rs → s.samples = a :: x :: c :: y :: rest →
    u = { s with
      level := setPin s.level s.cfgDataPin true
      dir := setPin s.dir s.cfgDataPin false
      busPhase := .active
      trace := s.trace ++ [.txWrite (readElems s), .txRead 2 (.bits [a, x]), .txWrite (readElems s),
        .txRead 2 (.bits [c, y])]
      writeAnswers := ws
      readAnswers := rs
      samples := rest } →
    (chooseLevel P cur.length a c = .comms → searchLevels P (n + 1) cur stack s =
      .raise ⟨.comms, [.num cur.length, .num a.toNat, .num c.toNat]⟩ u) ∧
    (chooseLevel P cur.length a c = .pathEmpty → searchLevels P (n + 1) cur stack s = .ok (none, stack) u) ∧
    (∀ (b : Bool) (ws' : List WriteAnswer), ws = .ok :: ws' →
      (chooseLevel P cur.length a c = .take b → searchLevels P (n + 1) cur stack s =
        searchLevels P n (cur ++ [b]) stack
          { u with trace := u.trace ++ [.txWrite (writeElems s b)], writeAnswers := ws' }) ∧
      (chooseLevel P cur.length a c = .fork → searchLevels P (n + 1) cur stack s =
        searchLevels P n (cur ++ [false]) ((cur ++ [true]) :: stack)
          { u with trace := u.trace ++ [.txWrite (writeElems s false)], writeAnswers := ws' })))

/-- 44_search.md R199: a pass keeps the stack in order, so it never holds more paths than a code has bits, which is 64 on
this hardware. -/
def Obligations.SearchStackStaysBounded : Prop :=
  ∀ (P : List Bool) (stack : List (List Bool)) (s t : State) (found : Option (List Byte)) (stack' : List (List Bool)),
    P.length ≤ s.params.romBits → stackInOrder s.params.romBits stack → (∀ p ∈ stack, p.length < P.length) →
    searchPass P stack s = .ok (found, stack') t →
    stackInOrder s.params.romBits stack' ∧ stack'.length ≤ s.params.romBits

/-- 44_search.md R200: SEARCH ends for every sequence of answers: as many passes as there are codes (2^64 on this
hardware) are always enough, so the bound in the model's loop is never met (log entry 12). -/
def Obligations.SearchEndsWithinItsBound : Prop :=
  ∀ (s : State) (fuel : Nat), 2 ^ s.params.romBits ≤ fuel →
    searchLoop fuel [[]] [] s = searchLoop (searchFuel s.params) [[]] [] s

/-- 44_search.md R203, R198, R201: on an ideal bus SEARCH returns exactly the codes of its devices, in depth-first order
with 0 before 1, and makes one pass for each, which writes the device's bits back: 194 writes and 129 reads where a code
has 64 bits. Bit k of byte j of a code is bit 8j + k of the device's path (20_memory.md R58, 44_search.md R196). -/
def Obligations.SearchFindsTheIdealBus : Prop :=
  ∀ (s : State) (N : Nat) (D : List Device) (paths : List (List Bool)) (ws : List WriteAnswer) (rs : List ReadKind)
      (rest : List Bool) (events : List Event),
    Idle s → s.params.romBits = N → fitsBatch s 32 → fitsResults s D.length →
    D ≠ [] → (∀ d ∈ D, d.Valid N) → paths = D.map Device.path → paths.Pairwise searchedBefore →
    s.writeAnswers = List.replicate ((2 + 3 * N) * D.length) .ok ++ ws →
    s.readAnswers = List.replicate ((1 + 2 * N) * D.length) .bits ++ rs →
    s.samples = idealSearch N paths ++ rest →
    events = (paths.map (idealPassEvents s N paths)).flatten →
    writeCount events = (2 + 3 * N) * D.length ∧ readCount events = (1 + 2 * N) * D.length ∧
    exec .search s = .next { s with
      level := setPin s.level s.cfgDataPin true
      dir := setPin s.dir s.cfgDataPin false
      busPhase := .active
      busSuspect := false
      trace := s.trace ++ events
      writeAnswers := ws
      readAnswers := rs
      samples := rest
      lastStatus := .ok
      responses := s.responses ++ [⟨.ok, D.map fun d => .rom d.code⟩] }

/-- 44_search.md R190, R195, R201: an empty bus gives the empty list: the reset sees no device, in overdrive after the
fallback and one write and one read more, or the first poll of the first pass is (1, 1). -/
def Obligations.SearchOfEmptyBusIsEmpty : Prop :=
  ∀ (s : State) (ws : List WriteAnswer) (rs : List ReadKind) (rest : List Bool), Idle s → fitsBatch s 32 →
    (s.mode = .std → s.writeAnswers = .ok :: ws → s.readAnswers = .bits :: rs → s.samples = true :: true :: rest →
      exec .search s = .next { s with
        level := setPin s.level s.cfgDataPin true
        dir := setPin s.dir s.cfgDataPin false
        busPhase := .noPresence
        busSuspect := false
        trace := s.trace ++ [.txWrite (resetElems s), .txRead 2 (.bits [true, true])]
        writeAnswers := ws
        readAnswers := rs
        samples := rest
        lastStatus := .ok
        responses := s.responses ++ [⟨.ok, []⟩] }) ∧
    (s.mode = .od → s.writeAnswers = .ok :: .ok :: ws → s.readAnswers = .bits :: .bits :: rs →
      s.samples = true :: true :: true :: true :: rest →
      exec .search s = .next { s with
        mode := .std
        level := setPin s.level s.cfgDataPin true
        dir := setPin s.dir s.cfgDataPin false
        busPhase := .noPresence
        busSuspect := false
        trace := s.trace ++ [.txWrite (resetElems s), .txRead 2 (.bits [true, true]),
          .txWrite (resetElems { s with mode := .std }), .txRead 2 (.bits [true, true])]
        writeAnswers := ws
        readAnswers := rs
        samples := rest
        lastStatus := .ok
        responses := s.responses ++ [⟨.ok, []⟩] }) ∧
    (∀ a c : Bool, 0 < s.params.romBits → s.writeAnswers = .ok :: .ok :: .ok :: .ok :: ws →
      s.readAnswers = .bits :: .bits :: .bits :: rs → s.samples = false :: true :: true :: a :: true :: c :: rest →
      exec .search s = .next { s with
        level := setPin s.level s.cfgDataPin true
        dir := setPin s.dir s.cfgDataPin false
        busPhase := .active
        busSuspect := false
        trace := s.trace ++ [.txWrite (resetElems s), .txRead 2 (.bits [false, true]),
          .txWrite (writeByteElems s s.params.searchCmd),
          .txWrite (readElems s), .txRead 2 (.bits [true, a]), .txWrite (readElems s), .txRead 2 (.bits [true, c])]
        writeAnswers := ws
        readAnswers := rs
        samples := rest
        lastStatus := .ok
        responses := s.responses ++ [⟨.ok, []⟩] })

/-- 44_search.md R190, R196, R202, 95_test_vectors.md W-2: whatever the transport answers, SEARCH completes with one
response, of one of the kinds of R190, and a search that answers OK returns only codes of `ROM_BITS` bits (8 bytes on this
hardware) whose CRC-8 is 0. It is refused only where a bound of the parameters is met (93_implementation_defined.md
I22). -/
def Obligations.SearchReturnsOnlyValidCodes : Prop :=
  ∀ s : State, fitsBatch s (s.buf.length + 32) →
    (exec .search s = .refused .resultsFull ∧ s.params.resultCapacity ≠ none) ∨
    ∃ (t : State) (r : Response), exec .search s = .next t ∧ t.responses = s.responses ++ [r] ∧
      r.status ∈ [Status.ok, .protocol, .usb, .timeout, .comms, .crc] ∧
      (r.status = .ok → ∀ v ∈ r.values, ∃ code : List Byte, v = .rom code ∧
        code.length = (s.params.romBits + 7) / 8 ∧ crc8 code = 0#8)

/-- 60_exceptions.md R222, 44_search.md R193, R195, R196, R202: what SEARCH answers when a pass fails: at a (1, 1) poll of
a new level of the first pass, CommsError with the level and 1, 1; on a code whose CRC-8 is not 0, CrcError with the
residue and the bytes of the code; and at a poll that contradicts the remembered bit in the pass after a fork, CommsError
with the level and the poll, the code already found being discarded. -/
def Obligations.SearchAnswersItsErrors : Prop :=
  ∀ (s : State) (N : Nat) (ws : List WriteAnswer) (rs : List ReadKind) (rest : List Bool), Idle s →
    s.params.romBits = N → fitsBatch s 32 →
    (∀ (d : List Bool) (x y : Bool), 0 < d.length → d.length < N →
      s.writeAnswers = List.replicate (4 + 3 * d.length) .ok ++ ws →
      s.readAnswers = List.replicate (3 + 2 * d.length) .bits ++ rs →
      s.samples = [false, true] ++ forcedPolls d ++ [true, x, true, y] ++ rest →
      ∃ t, exec .search s = .next t ∧ t.lastStatus = .comms ∧ t.samples = rest ∧
        t.responses = s.responses ++ [⟨.comms, [.num d.length, .num 1, .num 1]⟩]) ∧
    (∀ (d : List Bool) (code : List Byte), d.length = N → spells code d → crc8 code ≠ 0#8 →
      s.writeAnswers = List.replicate (2 + 3 * N) .ok ++ ws →
      s.readAnswers = List.replicate (1 + 2 * N) .bits ++ rs →
      s.samples = [false, true] ++ forcedPolls d ++ rest →
      ∃ t, exec .search s = .next t ∧ t.lastStatus = .crc ∧ t.samples = rest ∧
        t.responses = s.responses ++
          [⟨.crc, .num (crc8 code).toNat :: code.map fun b => .num b.toNat⟩]) ∧
    (∀ (d e : List Bool) (code : List Byte) (m : Nat) (b a x c y : Bool), d.length + 1 + e.length = N →
      spells code (d ++ [false] ++ e) → crc8 code = 0#8 → fitsResults s 1 →
      (d ++ [true])[m]? = some b → (if b = true then c = true else a = true) →
      s.writeAnswers = List.replicate (6 + 3 * N + 3 * m) .ok ++ ws →
      s.readAnswers = List.replicate (4 + 2 * N + 2 * m) .bits ++ rs →
      s.samples = [false, true] ++ forcedPolls d ++ [false, false, false, false] ++ forcedPolls e ++
        [false, true] ++ forcedPolls (d.take m) ++ [a, x, c, y] ++ rest →
      ∃ t, exec .search s = .next t ∧ t.lastStatus = .comms ∧ t.samples = rest ∧
        t.responses = s.responses ++ [⟨.comms, [.num m, .num a.toNat, .num c.toNat]⟩])

/-! ## The whole machine -/

/-- 10_state.md R23, R28-R31, R35, 60_exceptions.md R224, 93_implementation_defined.md I22: every step keeps the
invariants, INIT and every command included. -/
def Obligations.StepKeepsInvariants : Prop :=
  ∀ s t : State, Inv s → step s = .next t → Inv t

/-- 20_memory.md R52, R53, R67: every step keeps the order of transport calls. -/
def Obligations.StepKeepsTransportOrder : Prop :=
  ∀ s t : State, TraceInv s → step s = .next t → TraceInv t

/-- 60_exceptions.md R220, 10_state.md R22-R24, R37: a command that completes answers exactly one response, whose status is
`S.last_status` after it; the configuration is fixed, and the trace only grows. -/
def Obligations.CommandAnswersOnce : Prop :=
  ∀ (s t : State) (w : Word) (rest : List HostInput), s.hostQueue = .command w :: rest → step s = .next t →
    ∃ r : Response, t.responses = s.responses ++ [r] ∧ t.lastStatus = r.status ∧ t.hostQueue = rest ∧
      s.trace <+: t.trace ∧ t.params = s.params ∧ t.cfgDataPin = s.cfgDataPin ∧ t.cfgPullup = s.cfgPullup ∧
      t.cfgOdSupported = s.cfgOdSupported

/-- 60_exceptions.md R227, 10_state.md R33: no command clears `S.transport_dead`, and while it is set no command calls the
transport. -/
def Obligations.DeadTransportIsSticky : Prop :=
  ∀ (s t : State) (w : Word) (rest : List HostInput), s.hostQueue = .command w :: rest → s.transportDead = true →
    step s = .next t → t.transportDead = true ∧ t.trace = s.trace

/-- 60_exceptions.md R223: what an error leaves; after a TimeoutError or UsbError the batch is idle and empty, also where
the transport was dead before (log entry 19). -/
def Obligations.StateAfterAnError : Prop :=
  ∀ (s t : State) (w : Word) (rest : List HostInput) (r : Response), BatchInv s → s.hostQueue = .command w :: rest →
    step s = .next t → t.responses = s.responses ++ [r] →
    (r.status = .protocol ∨ r.status = .illegal →
      t = { s with hostQueue := rest, lastStatus := r.status, responses := s.responses ++ [r] }) ∧
    (r.status = .timeout → t.busSuspect = true) ∧
    (r.status = .usb → t.transportDead = true) ∧
    (r.status ≠ .timeout → t.busSuspect = true → s.busSuspect = true) ∧
    (r.status ≠ .usb → t.transportDead = s.transportDead) ∧
    (r.status = .timeout ∨ r.status = .usb → t.collecting = false ∧ t.buf = [] ∧ t.pend = [])

/-- 41_batch.md R126, R127, 60_exceptions.md R223, 20_memory.md R69: an implicit batch never outlives its command: only
BEGIN opens a batch that is open afterwards. And no command discards buffered elements without writing them, but FLUSH and
PULLUP where the transport is dead (41_batch.md R127, 42_bitbyte.md R160; that they go before R69 is deduced, log
entry 19). -/
def Obligations.BatchesCloseByBeingWritten : Prop :=
  ∀ (s t : State) (i : Instr), exec i s = .next t →
    (s.collecting = false → i ≠ .beginBatch → t.collecting = false) ∧
    (s.buf <+: t.buf ∨
      (∃ (es : List Elem) (later : List Event), t.trace = s.trace ++ .txWrite (s.buf ++ es) :: later) ∨
      (s.transportDead = true ∧ (i = .flush ∨ ∃ u, i = .pullup u)))

/-- 10_state.md R25: only MODE and the overdrive fallback of a reset write the timing mode. -/
def Obligations.OnlyModeAndFallbackWriteMode : Prop :=
  ∀ (s t : State) (i : Instr), exec i s = .next t →
    t.mode = s.mode ∨ i = .mode t.mode ∨ ((i = .reset ∨ i = .search) ∧ s.mode = .od ∧ t.mode = .std)

/-- Frame of the commands that touch no transport and no batch (40_timing.md R103-R107, 43_crc.md): they leave the
configuration, the batch, the line, the bus flags, the trace and the environment's answers; all but CRCI and CRCB leave
the CRC unit, and all but MODE leave the mode. -/
def Obligations.QuietCommandsFrame : Prop :=
  ∀ (s t : State) (i : Instr),
    (i ∈ [.nop, .crcr, .crcc] ∨ (∃ iv, i = .tq iv) ∨ (∃ u, i = .tqn u) ∨ (∃ m, i = .mode m) ∨ (∃ r, i = .rdreg r) ∨
      (∃ w, i = .crci w) ∨ (∃ d, i = .crcb d)) →
    exec i s = .next t →
    t.collecting = s.collecting ∧ t.buf = s.buf ∧ t.pend = s.pend ∧ t.level = s.level ∧ t.dir = s.dir ∧
    t.busPhase = s.busPhase ∧ t.busSuspect = s.busSuspect ∧ t.transportDead = s.transportDead ∧ t.trace = s.trace ∧
    t.writeAnswers = s.writeAnswers ∧ t.readAnswers = s.readAnswers ∧ t.samples = s.samples ∧
    t.freeDraws = s.freeDraws ∧ t.hostQueue = s.hostQueue ∧ t.params = s.params ∧ t.cfgDataPin = s.cfgDataPin ∧
    t.cfgPullup = s.cfgPullup ∧ t.cfgOdSupported = s.cfgOdSupported ∧
    ((∀ w, i ≠ .crci w) → t.crcWidth = s.crcWidth) ∧
    ((∀ w, i ≠ .crci w) → (∀ d, i ≠ .crcb d) → t.crcAcc = s.crcAcc) ∧
    ((∀ m, i ≠ .mode m) → t.mode = s.mode)

/-- Frame of the commands of the batch and of the bus (41_batch.md, 42_bitbyte.md, 44_search.md): they leave the CRC unit,
the configuration, the host's queue, and every pin's level and direction but the data pin's and the pullup pin's level
(10_state.md R30). -/
def Obligations.BusCommandsFrame : Prop :=
  ∀ (s t : State) (i : Instr),
    (i ∈ [.beginBatch, .flush, .reset, .rbit, .rbyte, .search] ∨ (∃ b, i = .wbit b) ∨ (∃ d, i = .wbyte d) ∨
      (∃ u, i = .pullup u)) →
    exec i s = .next t →
    t.crcAcc = s.crcAcc ∧ t.crcWidth = s.crcWidth ∧ t.params = s.params ∧ t.cfgDataPin = s.cfgDataPin ∧
    t.cfgPullup = s.cfgPullup ∧ t.cfgOdSupported = s.cfgOdSupported ∧ t.hostQueue = s.hostQueue ∧
    (∀ p : Pin, p ≠ s.cfgDataPin → t.dir.getLsbD p.toNat = s.dir.getLsbD p.toNat ∧
      (s.cfgPullup ≠ some p → t.level.getLsbD p.toNat = s.level.getLsbD p.toNat)) ∧
    ((∀ u, i ≠ .pullup u) → ∀ p : Pin, p ≠ s.cfgDataPin → t.level.getLsbD p.toNat = s.level.getLsbD p.toNat)

/-- 41_batch.md R129: a command list gives the same bus-level sequence, the same values and the same state inside one
explicit batch as outside, where every transport call is answered; only the number of writes differs. -/
def Obligations.BatchSizeInvariance : Prop :=
  ∀ (L : List Instr) (s u v : State), Ready s → (∀ i ∈ L, batchable i = true) →
    (∀ a ∈ s.writeAnswers, a = .ok) → L.length < s.writeAnswers.length →
    (∀ a ∈ s.readAnswers, a = .bits) → L.length < s.readAnswers.length → samplesTaken L ≤ s.samples.length →
    runCommands L s = some u → runCommands (.beginBatch :: L ++ [.flush]) s = some v →
    lineElems u.trace = lineElems v.trace ∧
    (v.responses.getLast?.map Response.values) = some (readValues L (u.responses.drop s.responses.length)) ∧
    readValues L (v.responses.drop (s.responses.length + 1)) =
      (List.range (readValues L (u.responses.drop s.responses.length)).length).map Value.token ∧
    (u.params = v.params ∧ u.cfgDataPin = v.cfgDataPin ∧ u.cfgPullup = v.cfgPullup ∧
      u.cfgOdSupported = v.cfgOdSupported ∧ u.mode = v.mode ∧ u.collecting = v.collecting ∧ u.buf = v.buf ∧
      u.pend = v.pend ∧ u.level = v.level ∧ u.dir = v.dir ∧ u.busPhase = v.busPhase ∧ u.busSuspect = v.busSuspect ∧
      u.transportDead = v.transportDead ∧ u.crcAcc = v.crcAcc ∧ u.crcWidth = v.crcWidth ∧ u.samples = v.samples) ∧
    writeCount u.trace = writeCount s.trace + slotCommands L ∧
    writeCount v.trace = writeCount s.trace + (if slotCommands L = 0 then 0 else 1)

/-! ## The transport's bytes -/

/-- 20_memory.md R52, R53, R56, R60, 30_encoding.md R90, R91: the bytes of each kind of element, a delay's being the
clock-set command, low byte first, and the wait suffix; the setup bytes; the bytes of a write are its elements' bytes in
order; and what a read asks the transport for on this hardware. The framing and setup bytes are the spec's general
knowledge (log entry 16), and the other encodings are open (log entry 6). -/
def Obligations.TransportBytes : Prop :=
  (∀ (p : Pin) (level dir : Half), encElem p (.gpio level dir) = Config.encGpio level dir) ∧
  (∀ p : Pin, encElem p .sample = Config.encSample p) ∧
  (∀ (p : Pin) (iv : Interval) (m : Mode) (d : Half),
    ∃ lo hi : Byte, lo.toNat = d.toNat % 256 ∧ hi.toNat = d.toNat / 256 ∧
      encElem p (.delay iv m d) = [0x86#8, lo, hi] ++ Config.waitSuffix) ∧
  (∀ p : Pin, writtenBytes p .setup = [0x8A#8, 0x97#8, 0x8D#8]) ∧
  (∀ (p : Pin) (es : List Elem), writtenBytes p (.txWrite es) = (es.map (encElem p)).flatten) ∧
  (∀ n : Nat, readRequest hardwareParams n = (n * Config.sampleBytes, 5))
end

