-- ==== Sys2Proof/Laws/State.lean ====
section
/-! SUPPORT. What each named update of the state does to each field: one lemma per field per update, true by rfl. -/

namespace Sys2Proof.Machine

/-! ## respond -/

@[simp] theorem respond_params (st : Status) (vs : List Value) (s : State) :
    (respond st vs s).params = s.params := rfl
@[simp] theorem respond_cfgDataPin (st : Status) (vs : List Value) (s : State) :
    (respond st vs s).cfgDataPin = s.cfgDataPin := rfl
@[simp] theorem respond_cfgPullup (st : Status) (vs : List Value) (s : State) :
    (respond st vs s).cfgPullup = s.cfgPullup := rfl
@[simp] theorem respond_cfgOdSupported (st : Status) (vs : List Value) (s : State) :
    (respond st vs s).cfgOdSupported = s.cfgOdSupported := rfl
@[simp] theorem respond_mode (st : Status) (vs : List Value) (s : State) :
    (respond st vs s).mode = s.mode := rfl
@[simp] theorem respond_collecting (st : Status) (vs : List Value) (s : State) :
    (respond st vs s).collecting = s.collecting := rfl
@[simp] theorem respond_buf (st : Status) (vs : List Value) (s : State) :
    (respond st vs s).buf = s.buf := rfl
@[simp] theorem respond_pend (st : Status) (vs : List Value) (s : State) :
    (respond st vs s).pend = s.pend := rfl
@[simp] theorem respond_level (st : Status) (vs : List Value) (s : State) :
    (respond st vs s).level = s.level := rfl
@[simp] theorem respond_dir (st : Status) (vs : List Value) (s : State) :
    (respond st vs s).dir = s.dir := rfl
@[simp] theorem respond_busPhase (st : Status) (vs : List Value) (s : State) :
    (respond st vs s).busPhase = s.busPhase := rfl
@[simp] theorem respond_busSuspect (st : Status) (vs : List Value) (s : State) :
    (respond st vs s).busSuspect = s.busSuspect := rfl
@[simp] theorem respond_transportDead (st : Status) (vs : List Value) (s : State) :
    (respond st vs s).transportDead = s.transportDead := rfl
@[simp] theorem respond_crcAcc (st : Status) (vs : List Value) (s : State) :
    (respond st vs s).crcAcc = s.crcAcc := rfl
@[simp] theorem respond_crcWidth (st : Status) (vs : List Value) (s : State) :
    (respond st vs s).crcWidth = s.crcWidth := rfl
@[simp] theorem respond_lastStatus (st : Status) (vs : List Value) (s : State) :
    (respond st vs s).lastStatus = st := rfl
@[simp] theorem respond_trace (st : Status) (vs : List Value) (s : State) :
    (respond st vs s).trace = s.trace := rfl
@[simp] theorem respond_responses (st : Status) (vs : List Value) (s : State) :
    (respond st vs s).responses = s.responses ++ [⟨st, vs⟩] := rfl
@[simp] theorem respond_hostQueue (st : Status) (vs : List Value) (s : State) :
    (respond st vs s).hostQueue = s.hostQueue := rfl
@[simp] theorem respond_writeAnswers (st : Status) (vs : List Value) (s : State) :
    (respond st vs s).writeAnswers = s.writeAnswers := rfl
@[simp] theorem respond_readAnswers (st : Status) (vs : List Value) (s : State) :
    (respond st vs s).readAnswers = s.readAnswers := rfl
@[simp] theorem respond_samples (st : Status) (vs : List Value) (s : State) :
    (respond st vs s).samples = s.samples := rfl
@[simp] theorem respond_freeDraws (st : Status) (vs : List Value) (s : State) :
    (respond st vs s).freeDraws = s.freeDraws := rfl

/-! ## record -/

@[simp] theorem record_params (e : Event) (s : State) :
    (record e s).params = s.params := rfl
@[simp] theorem record_cfgDataPin (e : Event) (s : State) :
    (record e s).cfgDataPin = s.cfgDataPin := rfl
@[simp] theorem record_cfgPullup (e : Event) (s : State) :
    (record e s).cfgPullup = s.cfgPullup := rfl
@[simp] theorem record_cfgOdSupported (e : Event) (s : State) :
    (record e s).cfgOdSupported = s.cfgOdSupported := rfl
@[simp] theorem record_mode (e : Event) (s : State) :
    (record e s).mode = s.mode := rfl
@[simp] theorem record_collecting (e : Event) (s : State) :
    (record e s).collecting = s.collecting := rfl
@[simp] theorem record_buf (e : Event) (s : State) :
    (record e s).buf = s.buf := rfl
@[simp] theorem record_pend (e : Event) (s : State) :
    (record e s).pend = s.pend := rfl
@[simp] theorem record_level (e : Event) (s : State) :
    (record e s).level = s.level := rfl
@[simp] theorem record_dir (e : Event) (s : State) :
    (record e s).dir = s.dir := rfl
@[simp] theorem record_busPhase (e : Event) (s : State) :
    (record e s).busPhase = s.busPhase := rfl
@[simp] theorem record_busSuspect (e : Event) (s : State) :
    (record e s).busSuspect = s.busSuspect := rfl
@[simp] theorem record_transportDead (e : Event) (s : State) :
    (record e s).transportDead = s.transportDead := rfl
@[simp] theorem record_crcAcc (e : Event) (s : State) :
    (record e s).crcAcc = s.crcAcc := rfl
@[simp] theorem record_crcWidth (e : Event) (s : State) :
    (record e s).crcWidth = s.crcWidth := rfl
@[simp] theorem record_lastStatus (e : Event) (s : State) :
    (record e s).lastStatus = s.lastStatus := rfl
@[simp] theorem record_trace (e : Event) (s : State) :
    (record e s).trace = s.trace ++ [e] := rfl
@[simp] theorem record_responses (e : Event) (s : State) :
    (record e s).responses = s.responses := rfl
@[simp] theorem record_hostQueue (e : Event) (s : State) :
    (record e s).hostQueue = s.hostQueue := rfl
@[simp] theorem record_writeAnswers (e : Event) (s : State) :
    (record e s).writeAnswers = s.writeAnswers := rfl
@[simp] theorem record_readAnswers (e : Event) (s : State) :
    (record e s).readAnswers = s.readAnswers := rfl
@[simp] theorem record_samples (e : Event) (s : State) :
    (record e s).samples = s.samples := rfl
@[simp] theorem record_freeDraws (e : Event) (s : State) :
    (record e s).freeDraws = s.freeDraws := rfl

/-! ## emit -/

@[simp] theorem emit_params (e : Elem) (s : State) :
    (emit e s).params = s.params := rfl
@[simp] theorem emit_cfgDataPin (e : Elem) (s : State) :
    (emit e s).cfgDataPin = s.cfgDataPin := rfl
@[simp] theorem emit_cfgPullup (e : Elem) (s : State) :
    (emit e s).cfgPullup = s.cfgPullup := rfl
@[simp] theorem emit_cfgOdSupported (e : Elem) (s : State) :
    (emit e s).cfgOdSupported = s.cfgOdSupported := rfl
@[simp] theorem emit_mode (e : Elem) (s : State) :
    (emit e s).mode = s.mode := rfl
@[simp] theorem emit_collecting (e : Elem) (s : State) :
    (emit e s).collecting = s.collecting := rfl
@[simp] theorem emit_buf (e : Elem) (s : State) :
    (emit e s).buf = s.buf ++ [e] := rfl
@[simp] theorem emit_pend (e : Elem) (s : State) :
    (emit e s).pend = s.pend := rfl
@[simp] theorem emit_level (e : Elem) (s : State) :
    (emit e s).level = s.level := rfl
@[simp] theorem emit_dir (e : Elem) (s : State) :
    (emit e s).dir = s.dir := rfl
@[simp] theorem emit_busPhase (e : Elem) (s : State) :
    (emit e s).busPhase = s.busPhase := rfl
@[simp] theorem emit_busSuspect (e : Elem) (s : State) :
    (emit e s).busSuspect = s.busSuspect := rfl
@[simp] theorem emit_transportDead (e : Elem) (s : State) :
    (emit e s).transportDead = s.transportDead := rfl
@[simp] theorem emit_crcAcc (e : Elem) (s : State) :
    (emit e s).crcAcc = s.crcAcc := rfl
@[simp] theorem emit_crcWidth (e : Elem) (s : State) :
    (emit e s).crcWidth = s.crcWidth := rfl
@[simp] theorem emit_lastStatus (e : Elem) (s : State) :
    (emit e s).lastStatus = s.lastStatus := rfl
@[simp] theorem emit_trace (e : Elem) (s : State) :
    (emit e s).trace = s.trace := rfl
@[simp] theorem emit_responses (e : Elem) (s : State) :
    (emit e s).responses = s.responses := rfl
@[simp] theorem emit_hostQueue (e : Elem) (s : State) :
    (emit e s).hostQueue = s.hostQueue := rfl
@[simp] theorem emit_writeAnswers (e : Elem) (s : State) :
    (emit e s).writeAnswers = s.writeAnswers := rfl
@[simp] theorem emit_readAnswers (e : Elem) (s : State) :
    (emit e s).readAnswers = s.readAnswers := rfl
@[simp] theorem emit_samples (e : Elem) (s : State) :
    (emit e s).samples = s.samples := rfl
@[simp] theorem emit_freeDraws (e : Elem) (s : State) :
    (emit e s).freeDraws = s.freeDraws := rfl

/-! ## clearBatch -/

@[simp] theorem clearBatch_params (s : State) :
    (clearBatch s).params = s.params := rfl
@[simp] theorem clearBatch_cfgDataPin (s : State) :
    (clearBatch s).cfgDataPin = s.cfgDataPin := rfl
@[simp] theorem clearBatch_cfgPullup (s : State) :
    (clearBatch s).cfgPullup = s.cfgPullup := rfl
@[simp] theorem clearBatch_cfgOdSupported (s : State) :
    (clearBatch s).cfgOdSupported = s.cfgOdSupported := rfl
@[simp] theorem clearBatch_mode (s : State) :
    (clearBatch s).mode = s.mode := rfl
@[simp] theorem clearBatch_collecting (s : State) :
    (clearBatch s).collecting = false := rfl
@[simp] theorem clearBatch_buf (s : State) :
    (clearBatch s).buf = [] := rfl
@[simp] theorem clearBatch_pend (s : State) :
    (clearBatch s).pend = [] := rfl
@[simp] theorem clearBatch_level (s : State) :
    (clearBatch s).level = s.level := rfl
@[simp] theorem clearBatch_dir (s : State) :
    (clearBatch s).dir = s.dir := rfl
@[simp] theorem clearBatch_busPhase (s : State) :
    (clearBatch s).busPhase = s.busPhase := rfl
@[simp] theorem clearBatch_busSuspect (s : State) :
    (clearBatch s).busSuspect = s.busSuspect := rfl
@[simp] theorem clearBatch_transportDead (s : State) :
    (clearBatch s).transportDead = s.transportDead := rfl
@[simp] theorem clearBatch_crcAcc (s : State) :
    (clearBatch s).crcAcc = s.crcAcc := rfl
@[simp] theorem clearBatch_crcWidth (s : State) :
    (clearBatch s).crcWidth = s.crcWidth := rfl
@[simp] theorem clearBatch_lastStatus (s : State) :
    (clearBatch s).lastStatus = s.lastStatus := rfl
@[simp] theorem clearBatch_trace (s : State) :
    (clearBatch s).trace = s.trace := rfl
@[simp] theorem clearBatch_responses (s : State) :
    (clearBatch s).responses = s.responses := rfl
@[simp] theorem clearBatch_hostQueue (s : State) :
    (clearBatch s).hostQueue = s.hostQueue := rfl
@[simp] theorem clearBatch_writeAnswers (s : State) :
    (clearBatch s).writeAnswers = s.writeAnswers := rfl
@[simp] theorem clearBatch_readAnswers (s : State) :
    (clearBatch s).readAnswers = s.readAnswers := rfl
@[simp] theorem clearBatch_samples (s : State) :
    (clearBatch s).samples = s.samples := rfl
@[simp] theorem clearBatch_freeDraws (s : State) :
    (clearBatch s).freeDraws = s.freeDraws := rfl

/-! ## busActive -/

@[simp] theorem busActive_params (s : State) :
    (busActive s).params = s.params := rfl
@[simp] theorem busActive_cfgDataPin (s : State) :
    (busActive s).cfgDataPin = s.cfgDataPin := rfl
@[simp] theorem busActive_cfgPullup (s : State) :
    (busActive s).cfgPullup = s.cfgPullup := rfl
@[simp] theorem busActive_cfgOdSupported (s : State) :
    (busActive s).cfgOdSupported = s.cfgOdSupported := rfl
@[simp] theorem busActive_mode (s : State) :
    (busActive s).mode = s.mode := rfl
@[simp] theorem busActive_collecting (s : State) :
    (busActive s).collecting = s.collecting := rfl
@[simp] theorem busActive_buf (s : State) :
    (busActive s).buf = s.buf := rfl
@[simp] theorem busActive_pend (s : State) :
    (busActive s).pend = s.pend := rfl
@[simp] theorem busActive_level (s : State) :
    (busActive s).level = s.level := rfl
@[simp] theorem busActive_dir (s : State) :
    (busActive s).dir = s.dir := rfl
@[simp] theorem busActive_busPhase (s : State) :
    (busActive s).busPhase = .active := rfl
@[simp] theorem busActive_busSuspect (s : State) :
    (busActive s).busSuspect = s.busSuspect := rfl
@[simp] theorem busActive_transportDead (s : State) :
    (busActive s).transportDead = s.transportDead := rfl
@[simp] theorem busActive_crcAcc (s : State) :
    (busActive s).crcAcc = s.crcAcc := rfl
@[simp] theorem busActive_crcWidth (s : State) :
    (busActive s).crcWidth = s.crcWidth := rfl
@[simp] theorem busActive_lastStatus (s : State) :
    (busActive s).lastStatus = s.lastStatus := rfl
@[simp] theorem busActive_trace (s : State) :
    (busActive s).trace = s.trace := rfl
@[simp] theorem busActive_responses (s : State) :
    (busActive s).responses = s.responses := rfl
@[simp] theorem busActive_hostQueue (s : State) :
    (busActive s).hostQueue = s.hostQueue := rfl
@[simp] theorem busActive_writeAnswers (s : State) :
    (busActive s).writeAnswers = s.writeAnswers := rfl
@[simp] theorem busActive_readAnswers (s : State) :
    (busActive s).readAnswers = s.readAnswers := rfl
@[simp] theorem busActive_samples (s : State) :
    (busActive s).samples = s.samples := rfl
@[simp] theorem busActive_freeDraws (s : State) :
    (busActive s).freeDraws = s.freeDraws := rfl

/-! ## setPresence -/

@[simp] theorem setPresence_params (p : Bool) (s : State) :
    (setPresence p s).params = s.params := rfl
@[simp] theorem setPresence_cfgDataPin (p : Bool) (s : State) :
    (setPresence p s).cfgDataPin = s.cfgDataPin := rfl
@[simp] theorem setPresence_cfgPullup (p : Bool) (s : State) :
    (setPresence p s).cfgPullup = s.cfgPullup := rfl
@[simp] theorem setPresence_cfgOdSupported (p : Bool) (s : State) :
    (setPresence p s).cfgOdSupported = s.cfgOdSupported := rfl
@[simp] theorem setPresence_mode (p : Bool) (s : State) :
    (setPresence p s).mode = s.mode := rfl
@[simp] theorem setPresence_collecting (p : Bool) (s : State) :
    (setPresence p s).collecting = s.collecting := rfl
@[simp] theorem setPresence_buf (p : Bool) (s : State) :
    (setPresence p s).buf = s.buf := rfl
@[simp] theorem setPresence_pend (p : Bool) (s : State) :
    (setPresence p s).pend = s.pend := rfl
@[simp] theorem setPresence_level (p : Bool) (s : State) :
    (setPresence p s).level = s.level := rfl
@[simp] theorem setPresence_dir (p : Bool) (s : State) :
    (setPresence p s).dir = s.dir := rfl
@[simp] theorem setPresence_busPhase (p : Bool) (s : State) :
    (setPresence p s).busPhase = if p then .presence else .noPresence := rfl
@[simp] theorem setPresence_busSuspect (p : Bool) (s : State) :
    (setPresence p s).busSuspect = s.busSuspect := rfl
@[simp] theorem setPresence_transportDead (p : Bool) (s : State) :
    (setPresence p s).transportDead = s.transportDead := rfl
@[simp] theorem setPresence_crcAcc (p : Bool) (s : State) :
    (setPresence p s).crcAcc = s.crcAcc := rfl
@[simp] theorem setPresence_crcWidth (p : Bool) (s : State) :
    (setPresence p s).crcWidth = s.crcWidth := rfl
@[simp] theorem setPresence_lastStatus (p : Bool) (s : State) :
    (setPresence p s).lastStatus = s.lastStatus := rfl
@[simp] theorem setPresence_trace (p : Bool) (s : State) :
    (setPresence p s).trace = s.trace := rfl
@[simp] theorem setPresence_responses (p : Bool) (s : State) :
    (setPresence p s).responses = s.responses := rfl
@[simp] theorem setPresence_hostQueue (p : Bool) (s : State) :
    (setPresence p s).hostQueue = s.hostQueue := rfl
@[simp] theorem setPresence_writeAnswers (p : Bool) (s : State) :
    (setPresence p s).writeAnswers = s.writeAnswers := rfl
@[simp] theorem setPresence_readAnswers (p : Bool) (s : State) :
    (setPresence p s).readAnswers = s.readAnswers := rfl
@[simp] theorem setPresence_samples (p : Bool) (s : State) :
    (setPresence p s).samples = s.samples := rfl
@[simp] theorem setPresence_freeDraws (p : Bool) (s : State) :
    (setPresence p s).freeDraws = s.freeDraws := rfl

/-! ## initResult -/

@[simp] theorem initResult_params (r : Response) (s : State) :
    (initResult r s).params = s.params := rfl
@[simp] theorem initResult_cfgDataPin (r : Response) (s : State) :
    (initResult r s).cfgDataPin = s.cfgDataPin := rfl
@[simp] theorem initResult_cfgPullup (r : Response) (s : State) :
    (initResult r s).cfgPullup = s.cfgPullup := rfl
@[simp] theorem initResult_cfgOdSupported (r : Response) (s : State) :
    (initResult r s).cfgOdSupported = s.cfgOdSupported := rfl
@[simp] theorem initResult_mode (r : Response) (s : State) :
    (initResult r s).mode = s.mode := rfl
@[simp] theorem initResult_collecting (r : Response) (s : State) :
    (initResult r s).collecting = s.collecting := rfl
@[simp] theorem initResult_buf (r : Response) (s : State) :
    (initResult r s).buf = s.buf := rfl
@[simp] theorem initResult_pend (r : Response) (s : State) :
    (initResult r s).pend = s.pend := rfl
@[simp] theorem initResult_level (r : Response) (s : State) :
    (initResult r s).level = s.level := rfl
@[simp] theorem initResult_dir (r : Response) (s : State) :
    (initResult r s).dir = s.dir := rfl
@[simp] theorem initResult_busPhase (r : Response) (s : State) :
    (initResult r s).busPhase = s.busPhase := rfl
@[simp] theorem initResult_busSuspect (r : Response) (s : State) :
    (initResult r s).busSuspect = s.busSuspect := rfl
@[simp] theorem initResult_transportDead (r : Response) (s : State) :
    (initResult r s).transportDead = s.transportDead := rfl
@[simp] theorem initResult_crcAcc (r : Response) (s : State) :
    (initResult r s).crcAcc = s.crcAcc := rfl
@[simp] theorem initResult_crcWidth (r : Response) (s : State) :
    (initResult r s).crcWidth = s.crcWidth := rfl
@[simp] theorem initResult_lastStatus (r : Response) (s : State) :
    (initResult r s).lastStatus = s.lastStatus := rfl
@[simp] theorem initResult_trace (r : Response) (s : State) :
    (initResult r s).trace = s.trace := rfl
@[simp] theorem initResult_responses (r : Response) (s : State) :
    (initResult r s).responses = s.responses ++ [r] := rfl
@[simp] theorem initResult_hostQueue (r : Response) (s : State) :
    (initResult r s).hostQueue = s.hostQueue := rfl
@[simp] theorem initResult_writeAnswers (r : Response) (s : State) :
    (initResult r s).writeAnswers = s.writeAnswers := rfl
@[simp] theorem initResult_readAnswers (r : Response) (s : State) :
    (initResult r s).readAnswers = s.readAnswers := rfl
@[simp] theorem initResult_samples (r : Response) (s : State) :
    (initResult r s).samples = s.samples := rfl
@[simp] theorem initResult_freeDraws (r : Response) (s : State) :
    (initResult r s).freeDraws = s.freeDraws := rfl

/-! ## issueNext -/

@[simp] theorem issueNext_params (w : Word) (s : State) :
    (issueNext w s).params = s.params := rfl
@[simp] theorem issueNext_cfgDataPin (w : Word) (s : State) :
    (issueNext w s).cfgDataPin = s.cfgDataPin := rfl
@[simp] theorem issueNext_cfgPullup (w : Word) (s : State) :
    (issueNext w s).cfgPullup = s.cfgPullup := rfl
@[simp] theorem issueNext_cfgOdSupported (w : Word) (s : State) :
    (issueNext w s).cfgOdSupported = s.cfgOdSupported := rfl
@[simp] theorem issueNext_mode (w : Word) (s : State) :
    (issueNext w s).mode = s.mode := rfl
@[simp] theorem issueNext_collecting (w : Word) (s : State) :
    (issueNext w s).collecting = s.collecting := rfl
@[simp] theorem issueNext_buf (w : Word) (s : State) :
    (issueNext w s).buf = s.buf := rfl
@[simp] theorem issueNext_pend (w : Word) (s : State) :
    (issueNext w s).pend = s.pend := rfl
@[simp] theorem issueNext_level (w : Word) (s : State) :
    (issueNext w s).level = s.level := rfl
@[simp] theorem issueNext_dir (w : Word) (s : State) :
    (issueNext w s).dir = s.dir := rfl
@[simp] theorem issueNext_busPhase (w : Word) (s : State) :
    (issueNext w s).busPhase = s.busPhase := rfl
@[simp] theorem issueNext_busSuspect (w : Word) (s : State) :
    (issueNext w s).busSuspect = s.busSuspect := rfl
@[simp] theorem issueNext_transportDead (w : Word) (s : State) :
    (issueNext w s).transportDead = s.transportDead := rfl
@[simp] theorem issueNext_crcAcc (w : Word) (s : State) :
    (issueNext w s).crcAcc = s.crcAcc := rfl
@[simp] theorem issueNext_crcWidth (w : Word) (s : State) :
    (issueNext w s).crcWidth = s.crcWidth := rfl
@[simp] theorem issueNext_lastStatus (w : Word) (s : State) :
    (issueNext w s).lastStatus = s.lastStatus := rfl
@[simp] theorem issueNext_trace (w : Word) (s : State) :
    (issueNext w s).trace = s.trace := rfl
@[simp] theorem issueNext_responses (w : Word) (s : State) :
    (issueNext w s).responses = s.responses := rfl
@[simp] theorem issueNext_hostQueue (w : Word) (s : State) :
    (issueNext w s).hostQueue = .command w :: s.hostQueue := rfl
@[simp] theorem issueNext_writeAnswers (w : Word) (s : State) :
    (issueNext w s).writeAnswers = s.writeAnswers := rfl
@[simp] theorem issueNext_readAnswers (w : Word) (s : State) :
    (issueNext w s).readAnswers = s.readAnswers := rfl
@[simp] theorem issueNext_samples (w : Word) (s : State) :
    (issueNext w s).samples = s.samples := rfl
@[simp] theorem issueNext_freeDraws (w : Word) (s : State) :
    (issueNext w s).freeDraws = s.freeDraws := rfl

/-! ## driveLow -/

@[simp] theorem driveLow_params (s : State) :
    (driveLow s).params = s.params := rfl
@[simp] theorem driveLow_cfgDataPin (s : State) :
    (driveLow s).cfgDataPin = s.cfgDataPin := rfl
@[simp] theorem driveLow_cfgPullup (s : State) :
    (driveLow s).cfgPullup = s.cfgPullup := rfl
@[simp] theorem driveLow_cfgOdSupported (s : State) :
    (driveLow s).cfgOdSupported = s.cfgOdSupported := rfl
@[simp] theorem driveLow_mode (s : State) :
    (driveLow s).mode = s.mode := rfl
@[simp] theorem driveLow_collecting (s : State) :
    (driveLow s).collecting = s.collecting := rfl
@[simp] theorem driveLow_buf (s : State) :
    (driveLow s).buf = s.buf ++ [lowElem s] := rfl
@[simp] theorem driveLow_pend (s : State) :
    (driveLow s).pend = s.pend := rfl
@[simp] theorem driveLow_level (s : State) :
    (driveLow s).level = setPin s.level s.cfgDataPin false := rfl
@[simp] theorem driveLow_dir (s : State) :
    (driveLow s).dir = setPin s.dir s.cfgDataPin true := rfl
@[simp] theorem driveLow_busPhase (s : State) :
    (driveLow s).busPhase = s.busPhase := rfl
@[simp] theorem driveLow_busSuspect (s : State) :
    (driveLow s).busSuspect = s.busSuspect := rfl
@[simp] theorem driveLow_transportDead (s : State) :
    (driveLow s).transportDead = s.transportDead := rfl
@[simp] theorem driveLow_crcAcc (s : State) :
    (driveLow s).crcAcc = s.crcAcc := rfl
@[simp] theorem driveLow_crcWidth (s : State) :
    (driveLow s).crcWidth = s.crcWidth := rfl
@[simp] theorem driveLow_lastStatus (s : State) :
    (driveLow s).lastStatus = s.lastStatus := rfl
@[simp] theorem driveLow_trace (s : State) :
    (driveLow s).trace = s.trace := rfl
@[simp] theorem driveLow_responses (s : State) :
    (driveLow s).responses = s.responses := rfl
@[simp] theorem driveLow_hostQueue (s : State) :
    (driveLow s).hostQueue = s.hostQueue := rfl
@[simp] theorem driveLow_writeAnswers (s : State) :
    (driveLow s).writeAnswers = s.writeAnswers := rfl
@[simp] theorem driveLow_readAnswers (s : State) :
    (driveLow s).readAnswers = s.readAnswers := rfl
@[simp] theorem driveLow_samples (s : State) :
    (driveLow s).samples = s.samples := rfl
@[simp] theorem driveLow_freeDraws (s : State) :
    (driveLow s).freeDraws = s.freeDraws := rfl

/-! ## release -/

@[simp] theorem release_params (s : State) :
    (release s).params = s.params := rfl
@[simp] theorem release_cfgDataPin (s : State) :
    (release s).cfgDataPin = s.cfgDataPin := rfl
@[simp] theorem release_cfgPullup (s : State) :
    (release s).cfgPullup = s.cfgPullup := rfl
@[simp] theorem release_cfgOdSupported (s : State) :
    (release s).cfgOdSupported = s.cfgOdSupported := rfl
@[simp] theorem release_mode (s : State) :
    (release s).mode = s.mode := rfl
@[simp] theorem release_collecting (s : State) :
    (release s).collecting = s.collecting := rfl
@[simp] theorem release_buf (s : State) :
    (release s).buf = s.buf ++ [relElem s] := rfl
@[simp] theorem release_pend (s : State) :
    (release s).pend = s.pend := rfl
@[simp] theorem release_level (s : State) :
    (release s).level = setPin s.level s.cfgDataPin true := rfl
@[simp] theorem release_dir (s : State) :
    (release s).dir = setPin s.dir s.cfgDataPin false := rfl
@[simp] theorem release_busPhase (s : State) :
    (release s).busPhase = s.busPhase := rfl
@[simp] theorem release_busSuspect (s : State) :
    (release s).busSuspect = s.busSuspect := rfl
@[simp] theorem release_transportDead (s : State) :
    (release s).transportDead = s.transportDead := rfl
@[simp] theorem release_crcAcc (s : State) :
    (release s).crcAcc = s.crcAcc := rfl
@[simp] theorem release_crcWidth (s : State) :
    (release s).crcWidth = s.crcWidth := rfl
@[simp] theorem release_lastStatus (s : State) :
    (release s).lastStatus = s.lastStatus := rfl
@[simp] theorem release_trace (s : State) :
    (release s).trace = s.trace := rfl
@[simp] theorem release_responses (s : State) :
    (release s).responses = s.responses := rfl
@[simp] theorem release_hostQueue (s : State) :
    (release s).hostQueue = s.hostQueue := rfl
@[simp] theorem release_writeAnswers (s : State) :
    (release s).writeAnswers = s.writeAnswers := rfl
@[simp] theorem release_readAnswers (s : State) :
    (release s).readAnswers = s.readAnswers := rfl
@[simp] theorem release_samples (s : State) :
    (release s).samples = s.samples := rfl
@[simp] theorem release_freeDraws (s : State) :
    (release s).freeDraws = s.freeDraws := rfl

/-! ## setPullup -/

@[simp] theorem setPullup_params (q : Pin) (x : Bool) (s : State) :
    (setPullup q x s).params = s.params := rfl
@[simp] theorem setPullup_cfgDataPin (q : Pin) (x : Bool) (s : State) :
    (setPullup q x s).cfgDataPin = s.cfgDataPin := rfl
@[simp] theorem setPullup_cfgPullup (q : Pin) (x : Bool) (s : State) :
    (setPullup q x s).cfgPullup = s.cfgPullup := rfl
@[simp] theorem setPullup_cfgOdSupported (q : Pin) (x : Bool) (s : State) :
    (setPullup q x s).cfgOdSupported = s.cfgOdSupported := rfl
@[simp] theorem setPullup_mode (q : Pin) (x : Bool) (s : State) :
    (setPullup q x s).mode = s.mode := rfl
@[simp] theorem setPullup_collecting (q : Pin) (x : Bool) (s : State) :
    (setPullup q x s).collecting = s.collecting := rfl
@[simp] theorem setPullup_buf (q : Pin) (x : Bool) (s : State) :
    (setPullup q x s).buf = s.buf ++ [.gpio (setPin s.level q x) s.dir] := rfl
@[simp] theorem setPullup_pend (q : Pin) (x : Bool) (s : State) :
    (setPullup q x s).pend = s.pend := rfl
@[simp] theorem setPullup_level (q : Pin) (x : Bool) (s : State) :
    (setPullup q x s).level = setPin s.level q x := rfl
@[simp] theorem setPullup_dir (q : Pin) (x : Bool) (s : State) :
    (setPullup q x s).dir = s.dir := rfl
@[simp] theorem setPullup_busPhase (q : Pin) (x : Bool) (s : State) :
    (setPullup q x s).busPhase = s.busPhase := rfl
@[simp] theorem setPullup_busSuspect (q : Pin) (x : Bool) (s : State) :
    (setPullup q x s).busSuspect = s.busSuspect := rfl
@[simp] theorem setPullup_transportDead (q : Pin) (x : Bool) (s : State) :
    (setPullup q x s).transportDead = s.transportDead := rfl
@[simp] theorem setPullup_crcAcc (q : Pin) (x : Bool) (s : State) :
    (setPullup q x s).crcAcc = s.crcAcc := rfl
@[simp] theorem setPullup_crcWidth (q : Pin) (x : Bool) (s : State) :
    (setPullup q x s).crcWidth = s.crcWidth := rfl
@[simp] theorem setPullup_lastStatus (q : Pin) (x : Bool) (s : State) :
    (setPullup q x s).lastStatus = s.lastStatus := rfl
@[simp] theorem setPullup_trace (q : Pin) (x : Bool) (s : State) :
    (setPullup q x s).trace = s.trace := rfl
@[simp] theorem setPullup_responses (q : Pin) (x : Bool) (s : State) :
    (setPullup q x s).responses = s.responses := rfl
@[simp] theorem setPullup_hostQueue (q : Pin) (x : Bool) (s : State) :
    (setPullup q x s).hostQueue = s.hostQueue := rfl
@[simp] theorem setPullup_writeAnswers (q : Pin) (x : Bool) (s : State) :
    (setPullup q x s).writeAnswers = s.writeAnswers := rfl
@[simp] theorem setPullup_readAnswers (q : Pin) (x : Bool) (s : State) :
    (setPullup q x s).readAnswers = s.readAnswers := rfl
@[simp] theorem setPullup_samples (q : Pin) (x : Bool) (s : State) :
    (setPullup q x s).samples = s.samples := rfl
@[simp] theorem setPullup_freeDraws (q : Pin) (x : Bool) (s : State) :
    (setPullup q x s).freeDraws = s.freeDraws := rfl

/-! ## wait -/

@[simp] theorem wait_params (iv : Interval) (s : State) :
    (wait iv s).params = s.params := rfl
@[simp] theorem wait_cfgDataPin (iv : Interval) (s : State) :
    (wait iv s).cfgDataPin = s.cfgDataPin := rfl
@[simp] theorem wait_cfgPullup (iv : Interval) (s : State) :
    (wait iv s).cfgPullup = s.cfgPullup := rfl
@[simp] theorem wait_cfgOdSupported (iv : Interval) (s : State) :
    (wait iv s).cfgOdSupported = s.cfgOdSupported := rfl
@[simp] theorem wait_mode (iv : Interval) (s : State) :
    (wait iv s).mode = s.mode := rfl
@[simp] theorem wait_collecting (iv : Interval) (s : State) :
    (wait iv s).collecting = s.collecting := rfl
@[simp] theorem wait_buf (iv : Interval) (s : State) :
    (wait iv s).buf = s.buf ++ [delayIn s iv] := rfl
@[simp] theorem wait_pend (iv : Interval) (s : State) :
    (wait iv s).pend = s.pend := rfl
@[simp] theorem wait_level (iv : Interval) (s : State) :
    (wait iv s).level = s.level := rfl
@[simp] theorem wait_dir (iv : Interval) (s : State) :
    (wait iv s).dir = s.dir := rfl
@[simp] theorem wait_busPhase (iv : Interval) (s : State) :
    (wait iv s).busPhase = s.busPhase := rfl
@[simp] theorem wait_busSuspect (iv : Interval) (s : State) :
    (wait iv s).busSuspect = s.busSuspect := rfl
@[simp] theorem wait_transportDead (iv : Interval) (s : State) :
    (wait iv s).transportDead = s.transportDead := rfl
@[simp] theorem wait_crcAcc (iv : Interval) (s : State) :
    (wait iv s).crcAcc = s.crcAcc := rfl
@[simp] theorem wait_crcWidth (iv : Interval) (s : State) :
    (wait iv s).crcWidth = s.crcWidth := rfl
@[simp] theorem wait_lastStatus (iv : Interval) (s : State) :
    (wait iv s).lastStatus = s.lastStatus := rfl
@[simp] theorem wait_trace (iv : Interval) (s : State) :
    (wait iv s).trace = s.trace := rfl
@[simp] theorem wait_responses (iv : Interval) (s : State) :
    (wait iv s).responses = s.responses := rfl
@[simp] theorem wait_hostQueue (iv : Interval) (s : State) :
    (wait iv s).hostQueue = s.hostQueue := rfl
@[simp] theorem wait_writeAnswers (iv : Interval) (s : State) :
    (wait iv s).writeAnswers = s.writeAnswers := rfl
@[simp] theorem wait_readAnswers (iv : Interval) (s : State) :
    (wait iv s).readAnswers = s.readAnswers := rfl
@[simp] theorem wait_samples (iv : Interval) (s : State) :
    (wait iv s).samples = s.samples := rfl
@[simp] theorem wait_freeDraws (iv : Interval) (s : State) :
    (wait iv s).freeDraws = s.freeDraws := rfl

/-! ## sampleLine -/

@[simp] theorem sampleLine_params (s : State) :
    (sampleLine s).params = s.params := rfl
@[simp] theorem sampleLine_cfgDataPin (s : State) :
    (sampleLine s).cfgDataPin = s.cfgDataPin := rfl
@[simp] theorem sampleLine_cfgPullup (s : State) :
    (sampleLine s).cfgPullup = s.cfgPullup := rfl
@[simp] theorem sampleLine_cfgOdSupported (s : State) :
    (sampleLine s).cfgOdSupported = s.cfgOdSupported := rfl
@[simp] theorem sampleLine_mode (s : State) :
    (sampleLine s).mode = s.mode := rfl
@[simp] theorem sampleLine_collecting (s : State) :
    (sampleLine s).collecting = s.collecting := rfl
@[simp] theorem sampleLine_buf (s : State) :
    (sampleLine s).buf = s.buf ++ [.sample] := rfl
@[simp] theorem sampleLine_pend (s : State) :
    (sampleLine s).pend = s.pend := rfl
@[simp] theorem sampleLine_level (s : State) :
    (sampleLine s).level = s.level := rfl
@[simp] theorem sampleLine_dir (s : State) :
    (sampleLine s).dir = s.dir := rfl
@[simp] theorem sampleLine_busPhase (s : State) :
    (sampleLine s).busPhase = s.busPhase := rfl
@[simp] theorem sampleLine_busSuspect (s : State) :
    (sampleLine s).busSuspect = s.busSuspect := rfl
@[simp] theorem sampleLine_transportDead (s : State) :
    (sampleLine s).transportDead = s.transportDead := rfl
@[simp] theorem sampleLine_crcAcc (s : State) :
    (sampleLine s).crcAcc = s.crcAcc := rfl
@[simp] theorem sampleLine_crcWidth (s : State) :
    (sampleLine s).crcWidth = s.crcWidth := rfl
@[simp] theorem sampleLine_lastStatus (s : State) :
    (sampleLine s).lastStatus = s.lastStatus := rfl
@[simp] theorem sampleLine_trace (s : State) :
    (sampleLine s).trace = s.trace := rfl
@[simp] theorem sampleLine_responses (s : State) :
    (sampleLine s).responses = s.responses := rfl
@[simp] theorem sampleLine_hostQueue (s : State) :
    (sampleLine s).hostQueue = s.hostQueue := rfl
@[simp] theorem sampleLine_writeAnswers (s : State) :
    (sampleLine s).writeAnswers = s.writeAnswers := rfl
@[simp] theorem sampleLine_readAnswers (s : State) :
    (sampleLine s).readAnswers = s.readAnswers := rfl
@[simp] theorem sampleLine_samples (s : State) :
    (sampleLine s).samples = s.samples := rfl
@[simp] theorem sampleLine_freeDraws (s : State) :
    (sampleLine s).freeDraws = s.freeDraws := rfl

end Sys2Proof.Machine
end

