-- ==== Sys2Proof/Laws/Slots.lean ====
section
/-! SUPPORT. The pins, and what a time slot does to the state, said once: one equation per slot. -/

namespace Sys2Proof.Machine

/-! ## Pins -/

/-- Reading a pin after setting one. -/
theorem getLsbD_setPin (v : Half) (i : Pin) (b : Bool) (j : Nat) :
    (setPin v i b).getLsbD j = if j = i.toNat then b else v.getLsbD j := by
  have hi : i.toNat < 16 := i.isLt
  by_cases h : j = i.toNat
  · subst h
    cases b <;> simp [setPin, hi]
  · rw [if_neg h]
    have hd : j < i.toNat ∨ j - i.toNat ≠ 0 := by omega
    cases b <;> rcases hd with hd | hd <;> simp [setPin, hd]
    all_goals exact BitVec.lt_of_getLsbD

/-- The last write to a pin counts. -/
@[simp] theorem setPin_setPin (v : Half) (i : Pin) (a b : Bool) : setPin (setPin v i a) i b = setPin v i b := by
  apply BitVec.eq_of_getLsbD_eq
  intro j _
  simp only [getLsbD_setPin]
  split <;> rfl

/-- Writes to two different pins commute. -/
theorem setPin_comm (v : Half) {i j : Pin} (h : i ≠ j) (a b : Bool) :
    setPin (setPin v i a) j b = setPin (setPin v j b) i a := by
  have h' : i.toNat ≠ j.toNat := fun e => h (BitVec.eq_of_toNat_eq e)
  apply BitVec.eq_of_getLsbD_eq
  intro k _
  simp only [getLsbD_setPin]
  split <;> split <;> simp_all

/-- Setting a pin to what it holds changes nothing. -/
theorem setPin_self (v : Half) (i : Pin) (b : Bool) (h : v.getLsbD i.toNat = b) : setPin v i b = v := by
  apply BitVec.eq_of_getLsbD_eq
  intro j _
  rw [getLsbD_setPin]
  split
  · next e => rw [e, h]
  · rfl

/-! ## SAMPLE elements -/

@[simp] theorem nsamp_append (xs ys : List Elem) : nsamp (xs ++ ys) = nsamp xs + nsamp ys := by
  induction xs with
  | nil => simp [nsamp]
  | cons e es ih => cases e with
    | sample => simp [nsamp, ih]; omega
    | gpio => simp [nsamp, ih]
    | delay => simp [nsamp, ih]

theorem nsamp_writeElems (s : State) (b : Bool) : nsamp (writeElems s b) = 0 := by
  cases b <;> rfl

theorem nsamp_readElems (s : State) : nsamp (readElems s) = 2 := rfl

theorem nsamp_resetElems (s : State) : nsamp (resetElems s) = 2 := rfl

/-! ## Slots -/

/-- The state after a slot: its elements are appended and the data pin is released. -/
def slotDone (s : State) (elems : List Elem) : State :=
  { s with
    level := setPin s.level s.cfgDataPin true
    dir := setPin s.dir s.cfgDataPin false
    buf := s.buf ++ elems }

theorem writeSlot_eq (b : Bool) (s : State) : writeSlot b s = slotDone s (writeElems s b) := by
  cases b <;>
    simp [writeSlot, slotDone, writeElems, release, driveLow, wait, emitGpio, emit, lowElem, relElem, delayIn]

theorem readSlot_eq (s : State) : readSlot s = slotDone s (readElems s) := by
  simp [readSlot, slotDone, readElems, release, driveLow, wait, sampleLine, emitGpio, emit, lowElem, relElem, delayIn]

theorem resetSlot_eq (s : State) : resetSlot s = slotDone s (resetElems s) := by
  simp [resetSlot, slotDone, resetElems, release, driveLow, wait, sampleLine, emitGpio, emit, lowElem, relElem, delayIn]

/-- A slot's elements do not depend on what the slots before it left. -/
@[simp] theorem writeElems_slotDone (s : State) (es : List Elem) (b : Bool) :
    writeElems (slotDone s es) b = writeElems s b := by
  simp [writeElems, lowElem, relElem, delayIn, slotDone]

@[simp] theorem readElems_slotDone (s : State) (es : List Elem) : readElems (slotDone s es) = readElems s := by
  simp [readElems, lowElem, relElem, delayIn, slotDone]

@[simp] theorem slotDone_slotDone (s : State) (xs ys : List Elem) :
    slotDone (slotDone s xs) ys = slotDone s (xs ++ ys) := by
  simp [slotDone]

/-- The write slots of a list of bits that is not empty. -/
theorem writeSlots_eq (b : Bool) (bs : List Bool) (s : State) :
    writeSlots (b :: bs) s = slotDone s (((b :: bs).map (writeElems s)).flatten) := by
  induction bs generalizing b s with
  | nil => simp [writeSlots, writeSlot_eq]
  | cons c cs ih =>
    have same : writeElems (slotDone s (writeElems s b)) = writeElems s := funext (writeElems_slotDone s _)
    rw [writeSlots, ih, writeSlot_eq, same]
    simp

/-- One or more read slots. -/
theorem readSlots_eq (n : Nat) (s : State) :
    readSlots (n + 1) s = slotDone s ((List.replicate (n + 1) (readElems s)).flatten) := by
  induction n generalizing s with
  | zero => simp [readSlots, readSlot_eq]
  | succ n ih =>
    rw [readSlots, ih, readSlot_eq]
    simp [List.replicate_succ]

/-- The eight write slots of a byte. -/
theorem writeByte_eq (d : Byte) (s : State) : writeSlots (byteBits d) s = slotDone s (writeByteElems s d) := by
  rw [byteBits, writeSlots_eq]
  rfl

/-- The eight read slots of a byte. -/
theorem readByte_eq (s : State) : readSlots 8 s = slotDone s (readByteElems s) := readSlots_eq 7 s

end Sys2Proof.Machine
end

