-- ==== Sys2Proof/Laws/Ops.lean ====
section
/-! SUPPORT. The shared operations: what each can do, said once, and what none of them touches. -/

namespace Sys2Proof.Machine

/-! ## Results -/

/-- The state of a result, whether it goes on, raises or stops. -/
def Res.state {α : Type} : Res α → State
  | .ok _ s => s
  | .raise _ s => s
  | .stop _ s => s

@[simp] theorem Res.state_ok {α : Type} (a : α) (s : State) : (Res.ok a s).state = s := rfl

@[simp] theorem Res.state_raise {α : Type} (e : Err) (s : State) : (Res.raise e s : Res α).state = s := rfl

@[simp] theorem Res.state_stop {α : Type} (r : Refusal) (s : State) : (Res.stop r s : Res α).state = s := rfl

@[simp] theorem Res.andThen_ok {α β : Type} (a : α) (s : State) (k : α → State → Res β) :
    (Res.ok a s).andThen k = k a s := rfl

@[simp] theorem Res.andThen_raise {α β : Type} (e : Err) (s : State) (k : α → State → Res β) :
    (Res.raise e s).andThen k = .raise e s := rfl

@[simp] theorem Res.andThen_stop {α β : Type} (r : Refusal) (s : State) (k : α → State → Res β) :
    (Res.stop r s).andThen k = .stop r s := rfl

@[simp] theorem finish_ok (vs : List Value) (s : State) : finish (.ok vs s) = .next (respond .ok vs s) := rfl

@[simp] theorem finish_raise (e : Err) (s : State) : finish (.raise e s) = .next (respond e.status e.info s) := rfl

@[simp] theorem finish_stop (r : Refusal) (s : State) : finish (.stop r s) = .refused r := rfl

/-- A command that answers a next state ended or raised: it appended one response to the state of its pseudocode. -/
theorem finish_next {r : Res (List Value)} {t : State} (h : finish r = .next t) :
    ∃ status values, t = respond status values r.state := by
  cases r with
  | ok vs s => exact ⟨.ok, vs, (Host.Outcome.next.inj h).symm⟩
  | raise e s => exact ⟨e.status, e.info, (Host.Outcome.next.inj h).symm⟩
  | stop r s => cases h

/-! ## Capacities -/

@[simp] theorem overCapacity_none (n : Nat) : overCapacity none n = false := rfl

@[simp] theorem overCapacity_some (c n : Nat) : overCapacity (some c) n = decide (c < n) := rfl

/-- A smaller number of entries is within a capacity too. -/
theorem overCapacity_mono {capacity : Option Nat} {m n : Nat} (h : m ≤ n) (hn : overCapacity capacity n = false) :
    overCapacity capacity m = false := by
  cases capacity with
  | none => rfl
  | some c =>
    simp only [overCapacity_some, decide_eq_false_iff_not] at hn ⊢
    omega

/-- Where the elements fit, the pseudocode goes on. -/
theorem ifRoom_fits {α : Type} {s : State} (k : State → Res α) (h : fitsBatch s s.buf.length) : ifRoom s k = k s := by
  have h' : overCapacity s.params.batchCapacity s.buf.length = false := h
  simp [ifRoom, h']

/-- Where they do not, the model stops. -/
theorem ifRoom_full {α : Type} {s : State} (k : State → Res α) (h : ¬fitsBatch s s.buf.length) :
    ifRoom s k = .stop .batchFull s := by
  have h' : overCapacity s.params.batchCapacity s.buf.length = true := by
    simpa [fitsBatch] using h
  simp [ifRoom, h']

/-! ## The oracle -/

@[simp] theorem drawWrite_scripted (s : State) (a : WriteAnswer) (rest : List WriteAnswer) (h : s.writeAnswers = a :: rest) :
    drawWrite s = (a, { s with writeAnswers := rest }) := by
  simp [drawWrite, h]

@[simp] theorem drawRead_scripted (s : State) (a : ReadKind) (rest : List ReadKind) (h : s.readAnswers = a :: rest) :
    drawRead s = (a, { s with readAnswers := rest }) := by
  simp [drawRead, h]

/-- As many samples as the script holds are the script's. -/
theorem drawSamples_scripted (bs rest : List Bool) (s : State) (h : s.samples = bs ++ rest) :
    drawSamples bs.length s = (bs, { s with samples := rest }) := by
  induction bs generalizing s with
  | nil => cases s; simp_all [drawSamples]
  | cons b bs ih =>
    have h' : drawSample s = (b, { s with samples := bs ++ rest }) := by simp [drawSample, h]
    simp [drawSamples, h', ih]

/-- A `Bits` answer has exactly as many bits as were asked for (20_memory.md R53). -/
theorem drawSamples_length (n : Nat) (s : State) : (drawSamples n s).1.length = n := by
  induction n generalizing s with
  | zero => rfl
  | succ n ih => simp [drawSamples, ih]

/-! ## What the transport, the batch and the slots never touch -/

/-- The configuration, the CRC unit, the responses and what the host has still to issue are as before, and the trace
has only grown. -/
structure KeepsSession (s t : State) : Prop where
  params : t.params = s.params
  cfgDataPin : t.cfgDataPin = s.cfgDataPin
  cfgPullup : t.cfgPullup = s.cfgPullup
  cfgOdSupported : t.cfgOdSupported = s.cfgOdSupported
  crcAcc : t.crcAcc = s.crcAcc
  crcWidth : t.crcWidth = s.crcWidth
  lastStatus : t.lastStatus = s.lastStatus
  responses : t.responses = s.responses
  hostQueue : t.hostQueue = s.hostQueue
  trace : s.trace <+: t.trace

theorem KeepsSession.refl (s : State) : KeepsSession s s :=
  ⟨rfl, rfl, rfl, rfl, rfl, rfl, rfl, rfl, rfl, List.prefix_refl _⟩

theorem KeepsSession.trans {s t u : State} (h : KeepsSession s t) (k : KeepsSession t u) : KeepsSession s u :=
  ⟨k.params.trans h.params, k.cfgDataPin.trans h.cfgDataPin, k.cfgPullup.trans h.cfgPullup,
    k.cfgOdSupported.trans h.cfgOdSupported, k.crcAcc.trans h.crcAcc, k.crcWidth.trans h.crcWidth,
    k.lastStatus.trans h.lastStatus, k.responses.trans h.responses, k.hostQueue.trans h.hostQueue,
    h.trace.trans k.trace⟩

theorem drawWrite_keeps (s : State) : KeepsSession s (drawWrite s).2 := by
  unfold drawWrite
  split <;> exact ⟨rfl, rfl, rfl, rfl, rfl, rfl, rfl, rfl, rfl, List.prefix_refl _⟩

theorem drawRead_keeps (s : State) : KeepsSession s (drawRead s).2 := by
  unfold drawRead
  split <;> exact ⟨rfl, rfl, rfl, rfl, rfl, rfl, rfl, rfl, rfl, List.prefix_refl _⟩

theorem drawSample_keeps (s : State) : KeepsSession s (drawSample s).2 := by
  unfold drawSample
  split <;> exact ⟨rfl, rfl, rfl, rfl, rfl, rfl, rfl, rfl, rfl, List.prefix_refl _⟩

theorem drawSamples_keeps (n : Nat) (s : State) : KeepsSession s (drawSamples n s).2 := by
  induction n generalizing s with
  | zero => exact KeepsSession.refl s
  | succ n ih => exact (drawSample_keeps s).trans (ih _)

theorem record_keeps (e : Event) (s : State) : KeepsSession s (record e s) :=
  ⟨rfl, rfl, rfl, rfl, rfl, rfl, rfl, rfl, rfl, List.prefix_append _ _⟩

theorem txWrite_keeps (elems : List Elem) (s : State) : KeepsSession s (txWrite elems s).2 :=
  (record_keeps _ s).trans (drawWrite_keeps _)

theorem txRead_keeps (n : Nat) (s : State) : KeepsSession s (txRead n s).2 := by
  have h := drawRead_keeps s
  unfold txRead
  rcases hd : drawRead s with ⟨k, t⟩
  rw [hd] at h
  cases k
  · exact (h.trans (drawSamples_keeps n t)).trans (record_keeps _ _)
  · exact h.trans (record_keeps _ t)
  · exact h.trans (record_keeps _ t)

/-- A `Bits` answer has exactly as many bits as were asked for (20_memory.md R53). -/
theorem txRead_fits (n : Nat) (s : State) : outcomeFits n (txRead n s).1 := by
  unfold txRead
  rcases drawRead s with ⟨k, t⟩
  cases k
  · exact drawSamples_length n t
  · trivial
  · trivial

/-- A write only records its event and uses up an answer. -/
theorem txWrite_cases (elems : List Elem) (s : State) :
    ∃ answers draws, (txWrite elems s).2 =
      { s with trace := s.trace ++ [.txWrite elems], writeAnswers := answers, freeDraws := draws } := by
  unfold txWrite drawWrite
  split <;> exact ⟨_, _, rfl⟩

/-- Drawing samples only uses up answers. -/
theorem drawSamples_cases (n : Nat) (s : State) :
    ∃ bits draws, (drawSamples n s).2 = { s with samples := bits, freeDraws := draws } := by
  induction n generalizing s with
  | zero => exact ⟨_, _, rfl⟩
  | succ n ih =>
    have h : ∃ bits draws, (drawSample s).2 = { s with samples := bits, freeDraws := draws } := by
      unfold drawSample
      split <;> exact ⟨_, _, rfl⟩
    obtain ⟨bits, draws, h⟩ := h
    obtain ⟨bits', draws', h'⟩ := ih (drawSample s).2
    exact ⟨bits', draws', by rw [drawSamples]; rw [h'] ; rw [h]⟩

/-- A read only records its event and uses up answers. -/
theorem txRead_cases (n : Nat) (s : State) :
    ∃ answers bits draws, (txRead n s).2 =
      { s with trace := s.trace ++ [.txRead n (txRead n s).1], readAnswers := answers, samples := bits,
               freeDraws := draws } := by
  have h : ∃ answers draws, (drawRead s).2 = { s with readAnswers := answers, freeDraws := draws } := by
    unfold drawRead
    split <;> exact ⟨_, _, rfl⟩
  obtain ⟨answers, draws, h⟩ := h
  unfold txRead
  rcases hd : drawRead s with ⟨k, t⟩
  rw [hd] at h
  subst h
  cases k
  · obtain ⟨bits, draws', h'⟩ := drawSamples_cases n { s with readAnswers := answers, freeDraws := draws }
    exact ⟨answers, bits, draws', by simp [record, h']⟩
  · exact ⟨_, _, _, rfl⟩
  · exact ⟨_, _, _, rfl⟩

/-! ## The batch -/

/-- All that `Flush()` can do (41_batch.md R123): nothing on an empty buffer, or one write and then at most one read. -/
theorem flush_cases (s : State) :
    (s.buf = [] ∧ flush s = .ok [] (clearBatch s)) ∨
    (s.buf ≠ [] ∧ ∃ t, txWrite s.buf (clearBatch s) = (.usbErr, t) ∧
      flush s = .raise (usbError 1) { t with transportDead := true }) ∨
    (s.buf ≠ [] ∧ nsamp s.buf = 0 ∧ ∃ t, txWrite s.buf (clearBatch s) = (.ok, t) ∧ flush s = .ok [] t) ∨
    (s.buf ≠ [] ∧ nsamp s.buf ≠ 0 ∧ ∃ t u, txWrite s.buf (clearBatch s) = (.ok, t) ∧
      txRead (nsamp s.buf) t = (.usbErr, u) ∧ flush s = .raise (usbError 2) { u with transportDead := true }) ∨
    (s.buf ≠ [] ∧ nsamp s.buf ≠ 0 ∧ ∃ t u, txWrite s.buf (clearBatch s) = (.ok, t) ∧
      txRead (nsamp s.buf) t = (.timeout, u) ∧
      flush s = .raise (timeoutError (nsamp s.buf)) { u with busSuspect := true }) ∨
    (s.buf ≠ [] ∧ nsamp s.buf ≠ 0 ∧ ∃ t u bs, txWrite s.buf (clearBatch s) = (.ok, t) ∧
      txRead (nsamp s.buf) t = (.bits bs, u) ∧ flush s = .ok (s.pend.map (resolve bs)) u) := by
  unfold flush
  by_cases hb : s.buf = []
  · exact .inl ⟨hb, by simp [hb]⟩
  · right
    rcases hw : txWrite s.buf (clearBatch s) with ⟨a, t⟩
    cases a
    · by_cases hn : nsamp s.buf = 0
      · exact .inr (.inl ⟨hb, hn, t, rfl, by simp [hb, hn, hw]⟩)
      · rcases hr : txRead (nsamp s.buf) t with ⟨o, u⟩
        cases o with
        | bits bs => exact .inr (.inr (.inr (.inr ⟨hb, hn, t, u, bs, rfl, hr, by simp [hb, hn, hw, hr]⟩)))
        | timeout => exact .inr (.inr (.inr (.inl ⟨hb, hn, t, u, rfl, hr, by simp [hb, hn, hw, hr]⟩)))
        | usbErr => exact .inr (.inr (.inl ⟨hb, hn, t, u, rfl, hr, by simp [hb, hn, hw, hr]⟩))
    · exact .inl ⟨hb, t, rfl, by simp [hb, hw]⟩

/-! ### `Flush()` where the environment has scripted the answers -/

/-- An empty buffer makes no transport call. -/
theorem flush_empty (s : State) (hb : s.buf = []) :
    flush s = .ok [] { s with buf := [], pend := [], collecting := false } := by
  simp [flush, hb, clearBatch]

/-- A buffer without samples: one write. -/
theorem flush_write (s : State) (ws : List WriteAnswer) (hb : s.buf ≠ []) (hn : nsamp s.buf = 0)
    (hw : s.writeAnswers = .ok :: ws) :
    flush s = .ok [] { s with
      buf := [], pend := [], collecting := false, trace := s.trace ++ [.txWrite s.buf], writeAnswers := ws } := by
  simp [flush, hb, hn, txWrite, drawWrite, record, clearBatch, hw]

/-- A write that fails. -/
theorem flush_writeFails (s : State) (ws : List WriteAnswer) (hb : s.buf ≠ []) (hw : s.writeAnswers = .usbErr :: ws) :
    flush s = .raise (usbError 1) { s with
      buf := [], pend := [], collecting := false, trace := s.trace ++ [.txWrite s.buf], writeAnswers := ws,
      transportDead := true } := by
  simp [flush, hb, txWrite, drawWrite, record, clearBatch, hw]

/-- A buffer with samples: one write, then one read that answers bits. -/
theorem flush_read (s : State) (ws : List WriteAnswer) (rs : List ReadKind) (bs rest : List Bool) (hb : s.buf ≠ [])
    (hn : nsamp s.buf ≠ 0) (hl : bs.length = nsamp s.buf) (hw : s.writeAnswers = .ok :: ws)
    (hr : s.readAnswers = .bits :: rs) (hs : s.samples = bs ++ rest) :
    flush s = .ok (s.pend.map (resolve bs)) { s with
      buf := [], pend := [], collecting := false,
      trace := s.trace ++ [.txWrite s.buf, .txRead (nsamp s.buf) (.bits bs)], writeAnswers := ws, readAnswers := rs,
      samples := rest } := by
  have hd := drawSamples_scripted bs rest { s with
    buf := [], pend := [], collecting := false, trace := s.trace ++ [.txWrite s.buf], writeAnswers := ws,
    readAnswers := rs } hs
  rw [hl] at hd
  simp only [flush, hb, hn, txWrite, drawWrite, record, clearBatch, hw, txRead, drawRead, hr, hd, if_false]
  simp

/-- A read that fails. -/
theorem flush_readFails (s : State) (ws : List WriteAnswer) (rs : List ReadKind) (hb : s.buf ≠ [])
    (hn : nsamp s.buf ≠ 0) (hw : s.writeAnswers = .ok :: ws) (hr : s.readAnswers = .usbErr :: rs) :
    flush s = .raise (usbError 2) { s with
      buf := [], pend := [], collecting := false,
      trace := s.trace ++ [.txWrite s.buf, .txRead (nsamp s.buf) .usbErr], writeAnswers := ws, readAnswers := rs,
      transportDead := true } := by
  simp [flush, hb, hn, txWrite, drawWrite, record, clearBatch, hw, txRead, drawRead, hr]

/-- A read that times out. -/
theorem flush_timesOut (s : State) (ws : List WriteAnswer) (rs : List ReadKind) (hb : s.buf ≠ [])
    (hn : nsamp s.buf ≠ 0) (hw : s.writeAnswers = .ok :: ws) (hr : s.readAnswers = .timeout :: rs) :
    flush s = .raise (timeoutError (nsamp s.buf)) { s with
      buf := [], pend := [], collecting := false,
      trace := s.trace ++ [.txWrite s.buf, .txRead (nsamp s.buf) .timeout], writeAnswers := ws, readAnswers := rs,
      busSuspect := true } := by
  simp [flush, hb, hn, txWrite, drawWrite, record, clearBatch, hw, txRead, drawRead, hr]

theorem clearBatch_keeps (s : State) : KeepsSession s (clearBatch s) :=
  ⟨rfl, rfl, rfl, rfl, rfl, rfl, rfl, rfl, rfl, List.prefix_refl _⟩

theorem flush_keeps (s : State) : KeepsSession s (flush s).state := by
  have hc := clearBatch_keeps s
  have hw := txWrite_keeps s.buf (clearBatch s)
  rcases flush_cases s with ⟨_, h⟩ | ⟨_, t, ht, h⟩ | ⟨_, _, t, ht, h⟩ | ⟨_, _, t, u, ht, hu, h⟩ | ⟨_, _, t, u, ht, hu, h⟩ |
    ⟨_, _, t, u, bs, ht, hu, h⟩ <;> rw [h]
  · exact hc
  all_goals rw [ht] at hw
  · have k := hc.trans hw
    exact ⟨k.params, k.cfgDataPin, k.cfgPullup, k.cfgOdSupported, k.crcAcc, k.crcWidth, k.lastStatus, k.responses,
      k.hostQueue, k.trace⟩
  · exact hc.trans hw
  all_goals
    have hr := txRead_keeps (nsamp s.buf) t
    rw [hu] at hr
    have k := (hc.trans hw).trans hr
    exact ⟨k.params, k.cfgDataPin, k.cfgPullup, k.cfgOdSupported, k.crcAcc, k.crcWidth, k.lastStatus, k.responses,
      k.hostQueue, k.trace⟩

/-- `Flush()` leaves the batch idle and empty, whatever the transport answers (41_batch.md R123, 60_exceptions.md R223). -/
theorem flush_idle (s : State) :
    (flush s).state.collecting = false ∧ (flush s).state.buf = [] ∧ (flush s).state.pend = [] := by
  obtain ⟨wa, wd, hw⟩ := txWrite_cases s.buf (clearBatch s)
  rcases flush_cases s with ⟨_, h⟩ | ⟨_, t, ht, h⟩ | ⟨_, _, t, ht, h⟩ | ⟨_, _, t, u, ht, hu, h⟩ | ⟨_, _, t, u, ht, hu, h⟩ |
    ⟨_, _, t, u, bs, ht, hu, h⟩ <;> rw [h]
  · exact ⟨rfl, rfl, rfl⟩
  all_goals
    rw [ht] at hw
    simp only at hw
    subst hw
  · exact ⟨rfl, rfl, rfl⟩
  · exact ⟨rfl, rfl, rfl⟩
  all_goals
    obtain ⟨ra, rb, rd, hr⟩ := txRead_cases (nsamp s.buf)
      { clearBatch s with trace := (clearBatch s).trace ++ [.txWrite s.buf], writeAnswers := wa, freeDraws := wd }
    rw [hu] at hr
    simp only at hr
    subst hr
    exact ⟨rfl, rfl, rfl⟩

/-- `Flush()` never touches the line, the phase or the mode. -/
theorem flush_line (s : State) :
    (flush s).state.level = s.level ∧ (flush s).state.dir = s.dir ∧ (flush s).state.busPhase = s.busPhase ∧
      (flush s).state.mode = s.mode := by
  obtain ⟨wa, wd, hw⟩ := txWrite_cases s.buf (clearBatch s)
  rcases flush_cases s with ⟨_, h⟩ | ⟨_, t, ht, h⟩ | ⟨_, _, t, ht, h⟩ | ⟨_, _, t, u, ht, hu, h⟩ | ⟨_, _, t, u, ht, hu, h⟩ |
    ⟨_, _, t, u, bs, ht, hu, h⟩ <;> rw [h]
  · exact ⟨rfl, rfl, rfl, rfl⟩
  all_goals
    rw [ht] at hw
    simp only at hw
    subst hw
  · exact ⟨rfl, rfl, rfl, rfl⟩
  · exact ⟨rfl, rfl, rfl, rfl⟩
  all_goals
    obtain ⟨ra, rb, rd, hr⟩ := txRead_cases (nsamp s.buf)
      { clearBatch s with trace := (clearBatch s).trace ++ [.txWrite s.buf], writeAnswers := wa, freeDraws := wd }
    rw [hu] at hr
    simp only at hr
    subst hr
    exact ⟨rfl, rfl, rfl, rfl⟩

theorem slotDone_keeps (s : State) (es : List Elem) : KeepsSession s (slotDone s es) :=
  ⟨rfl, rfl, rfl, rfl, rfl, rfl, rfl, rfl, rfl, List.prefix_refl _⟩

/-- A chain of operations keeps the session if each of them does. -/
theorem KeepsSession.andThen {α β : Type} {s : State} {r : Res α} {k : α → State → Res β}
    (h : KeepsSession s r.state) (hk : ∀ a t, KeepsSession t (k a t).state) : KeepsSession s (r.andThen k).state := by
  cases r with
  | ok a t => exact h.trans (hk a t)
  | raise e t => exact h
  | stop r t => exact h

theorem ifRoom_keeps {α : Type} {s t : State} {k : State → Res α} (h : KeepsSession s t)
    (hk : KeepsSession t (k t).state) : KeepsSession s (ifRoom t k).state := by
  unfold ifRoom
  split
  · exact h
  · exact h.trans hk

theorem implicitBatch_keeps (body : State → List Nat × State) (s : State)
    (h : ∀ t, KeepsSession t (body t).2) : KeepsSession s (implicitBatch body s).state := by
  unfold implicitBatch
  split
  · exact KeepsSession.refl s
  · have k : KeepsSession s { s with collecting := true } :=
      ⟨rfl, rfl, rfl, rfl, rfl, rfl, rfl, rfl, rfl, List.prefix_refl _⟩
    exact ifRoom_keeps (k.trans (h _)) (flush_keeps _)

/-- All that `WithBatch(body)` can do (41_batch.md R124). -/
theorem withBatch_cases (body : State → List Nat × State) (s : State) :
    (s.collecting = true ∧
      withBatch body s = ifRoom (body s).2 fun t => .ok ((body s).1.map .token) t) ∨
    (s.collecting = false ∧ s.transportDead = true ∧ withBatch body s = .raise (usbError 0) s) ∨
    (s.collecting = false ∧ s.transportDead = false ∧
      withBatch body s =
        (ifRoom (body { s with collecting := true }).2 flush).andThen fun vals t => .ok (vals.map .num) t) := by
  cases hc : s.collecting <;> cases hd : s.transportDead <;> simp [withBatch, implicitBatch, hc, hd]

end Sys2Proof.Machine
end

