-- ==== Sys2Proof/Laws/Commands.lean ====
section
/-! SUPPORT. The bodies of the bus commands, said once each, and what the commands never touch. -/

namespace Sys2Proof.Machine

theorem wbitBody_eq (b : Bool) (s : State) :
    wbitBody b s = ([], { slotDone s (writeElems s b) with busPhase := .active }) := by
  simp [wbitBody, busActive, writeSlot_eq]

theorem wbyteBody_eq (d : Byte) (s : State) :
    wbyteBody d s = ([], { slotDone s (writeByteElems s d) with busPhase := .active }) := by
  simp [wbyteBody, busActive, writeByte_eq]

theorem rbitBody_eq (s : State) :
    rbitBody s = ([s.pend.length],
      { slotDone s (readElems s) with pend := s.pend ++ [.bit (nsamp s.buf)], busPhase := .active }) := by
  simp [rbitBody, pendRead, busActive, readSlot_eq, slotDone, readElems, lowElem, relElem, delayIn]

theorem rbyteBody_eq (s : State) :
    rbyteBody s = ([s.pend.length],
      { slotDone s (readByteElems s) with pend := s.pend ++ [.byte (nsamp s.buf)], busPhase := .active }) := by
  simp [rbyteBody, pendRead, busActive, readByte_eq, slotDone, readByteElems, readElems, lowElem, relElem, delayIn]

theorem wbitBody_keeps (b : Bool) (s : State) : KeepsSession s (wbitBody b s).2 := by
  rw [wbitBody_eq]
  exact ⟨rfl, rfl, rfl, rfl, rfl, rfl, rfl, rfl, rfl, List.prefix_refl _⟩

theorem wbyteBody_keeps (d : Byte) (s : State) : KeepsSession s (wbyteBody d s).2 := by
  rw [wbyteBody_eq]
  exact ⟨rfl, rfl, rfl, rfl, rfl, rfl, rfl, rfl, rfl, List.prefix_refl _⟩

theorem rbitBody_keeps (s : State) : KeepsSession s (rbitBody s).2 := by
  rw [rbitBody_eq]
  exact ⟨rfl, rfl, rfl, rfl, rfl, rfl, rfl, rfl, rfl, List.prefix_refl _⟩

theorem rbyteBody_keeps (s : State) : KeepsSession s (rbyteBody s).2 := by
  rw [rbyteBody_eq]
  exact ⟨rfl, rfl, rfl, rfl, rfl, rfl, rfl, rfl, rfl, List.prefix_refl _⟩

theorem resetOnce_keeps (s : State) : KeepsSession s (resetOnce s).state := by
  refine KeepsSession.andThen (s := s) ?_ fun a t => ⟨rfl, rfl, rfl, rfl, rfl, rfl, rfl, rfl, rfl, List.prefix_refl _⟩
  have k : KeepsSession s (resetSlot (pendRead .rst { s with collecting := true }).2) := by
    rw [resetSlot_eq]
    exact ⟨rfl, rfl, rfl, rfl, rfl, rfl, rfl, rfl, rfl, List.prefix_refl _⟩
  exact ifRoom_keeps k (flush_keeps _)

theorem setPresence_keeps (p : Bool) (s : State) : KeepsSession s (setPresence p s) :=
  ⟨rfl, rfl, rfl, rfl, rfl, rfl, rfl, rfl, rfl, List.prefix_refl _⟩

theorem resetBody_keeps (s : State) : KeepsSession s (resetBody s).state := by
  refine KeepsSession.andThen (resetOnce_keeps s) fun p t => ?_
  split
  · have k : KeepsSession t { t with mode := .std } :=
      ⟨rfl, rfl, rfl, rfl, rfl, rfl, rfl, rfl, rfl, List.prefix_refl _⟩
    exact KeepsSession.andThen (k.trans (resetOnce_keeps _)) fun p u => setPresence_keeps p u
  · exact setPresence_keeps p t

theorem pullupRead_keeps (s : State) : KeepsSession s (pullupRead s).state := by
  have k : KeepsSession s { s with collecting := true } :=
    ⟨rfl, rfl, rfl, rfl, rfl, rfl, rfl, rfl, rfl, List.prefix_refl _⟩
  exact KeepsSession.andThen (ifRoom_keeps (k.trans (rbyteBody_keeps _)) (flush_keeps _)) fun _ t => KeepsSession.refl t

theorem pullupWait_keeps (us : Nat) (s : State) : KeepsSession s (pullupWait us s).state := by
  unfold pullupWait
  split
  · next q _ =>
    have k (x : Bool) (t : State) : KeepsSession t (setPullup q x t) :=
      ⟨rfl, rfl, rfl, rfl, rfl, rfl, rfl, rfl, rfl, List.prefix_refl _⟩
    refine KeepsSession.andThen (ifRoom_keeps (k true s) (flush_keeps _)) fun _ t => ?_
    have c : KeepsSession t { hostSleep us t with collecting := true } :=
      ⟨rfl, rfl, rfl, rfl, rfl, rfl, rfl, rfl, rfl, List.prefix_append _ _⟩
    exact ifRoom_keeps (c.trans (k false _)) (flush_keeps _)
  · exact KeepsSession.andThen (flush_keeps s) fun _ t => record_keeps _ t

theorem pollBit_keeps (s : State) : KeepsSession s (pollBit s).state :=
  KeepsSession.andThen (implicitBatch_keeps _ s rbitBody_keeps) fun _ t => KeepsSession.refl t

theorem searchLevels_keeps (P : List Bool) (n : Nat) (cur : List Bool) (stack : List (List Bool)) (s : State) :
    KeepsSession s (searchLevels P n cur stack s).state := by
  induction n generalizing cur stack s with
  | zero => exact KeepsSession.refl s
  | succ n ih =>
    refine KeepsSession.andThen (pollBit_keeps s) fun a t => KeepsSession.andThen (pollBit_keeps t) fun c u => ?_
    split
    · exact KeepsSession.refl u
    · exact KeepsSession.refl u
    · next b _ => exact KeepsSession.andThen (implicitBatch_keeps _ u (wbitBody_keeps b)) fun _ v => ih _ _ v
    · exact KeepsSession.andThen (implicitBatch_keeps _ u (wbitBody_keeps false)) fun _ v => ih _ _ v

theorem searchPass_keeps (P : List Bool) (stack : List (List Bool)) (s : State) :
    KeepsSession s (searchPass P stack s).state := by
  refine KeepsSession.andThen (resetBody_keeps s) fun p t => ?_
  split
  · exact KeepsSession.refl t
  · refine KeepsSession.andThen (implicitBatch_keeps _ t (wbyteBody_keeps _)) fun _ u =>
      KeepsSession.andThen (searchLevels_keeps P _ [] stack u) fun out v => ?_
    split
    · exact KeepsSession.refl v
    · unfold checkCode
      split <;> exact KeepsSession.refl v

theorem searchLoop_keeps (fuel : Nat) (stack : List (List Bool)) (results : List (List Byte)) (s : State) :
    KeepsSession s (searchLoop fuel stack results s).state := by
  induction fuel generalizing stack results s with
  | zero => exact KeepsSession.refl s
  | succ fuel ih =>
    cases stack with
    | nil => exact KeepsSession.refl s
    | cons P stack =>
      refine KeepsSession.andThen (searchPass_keeps P stack s) fun out t => ?_
      split
      · exact ih _ _ t
      · split
        · exact KeepsSession.refl t
        · exact ih _ _ t

theorem flushCommand_keeps (s : State) : KeepsSession s (flushCommand s).state := by
  unfold flushCommand
  split
  · exact KeepsSession.refl s
  · split
    · exact clearBatch_keeps s
    · exact KeepsSession.andThen (flush_keeps s) fun _ t => KeepsSession.refl t

theorem resetCommand_keeps (s : State) : KeepsSession s (resetCommand s).state := by
  unfold resetCommand
  split
  · exact KeepsSession.refl s
  · split
    · exact KeepsSession.refl s
    · exact KeepsSession.andThen (resetBody_keeps s) fun _ t => KeepsSession.refl t

theorem withBatch_keeps (body : State → List Nat × State) (s : State) (h : ∀ t, KeepsSession t (body t).2) :
    KeepsSession s (withBatch body s).state := by
  unfold withBatch
  split
  · exact ifRoom_keeps (h s) (KeepsSession.refl _)
  · exact KeepsSession.andThen (implicitBatch_keeps body s h) fun _ t => KeepsSession.refl t

theorem bitCommand_keeps (body : State → List Nat × State) (s : State) (h : ∀ t, KeepsSession t (body t).2) :
    KeepsSession s (bitCommand body s).state := by
  unfold bitCommand
  split
  · exact KeepsSession.refl s
  · exact withBatch_keeps body s h

theorem pullupCommand_keeps (us : Nat) (s : State) : KeepsSession s (pullupCommand us s).state := by
  unfold pullupCommand
  split
  · exact KeepsSession.refl s
  · split
    · exact KeepsSession.refl s
    · split
      · exact ⟨rfl, rfl, rfl, rfl, rfl, rfl, rfl, rfl, rfl, List.prefix_refl _⟩
      · split
        · exact KeepsSession.refl s
        · exact KeepsSession.andThen (pullupWait_keeps us s) fun _ t => pullupRead_keeps t

theorem searchCommand_keeps (s : State) : KeepsSession s (searchCommand s).state := by
  unfold searchCommand
  split
  · exact KeepsSession.refl s
  · split
    · exact KeepsSession.refl s
    · exact KeepsSession.andThen (searchLoop_keeps _ _ _ s) fun _ t => KeepsSession.refl t

/-- The pseudocode of a command of the batch or of the bus; none for the other commands. -/
def busCommand : Instr → Option (State → Res (List Value))
  | .beginBatch => some fun s => if s.collecting then .raise (protocolViolation 1) s else .ok [] { s with collecting := true }
  | .flush => some flushCommand
  | .reset => some resetCommand
  | .wbit b => some (bitCommand (wbitBody b))
  | .rbit => some (bitCommand rbitBody)
  | .wbyte d => some (bitCommand (wbyteBody d))
  | .rbyte => some (bitCommand rbyteBody)
  | .pullup u => some (pullupCommand u.toNat)
  | .search => some searchCommand
  | .nop | .tq _ | .tqn _ | .mode _ | .crci _ | .crcb _ | .crcr | .crcc | .rdreg _ => none

/-- A command of the batch or of the bus is the end of its pseudocode. -/
theorem exec_busCommand {i : Instr} {c : State → Res (List Value)} (hc : busCommand i = some c) (s : State) :
    exec i s = finish (c s) := by
  cases i <;> cases hc <;> rfl

/-- The pseudocode of a command of the batch or of the bus never touches the session. -/
theorem busCommand_keeps {i : Instr} {c : State → Res (List Value)} (hc : busCommand i = some c) (s : State) :
    KeepsSession s (c s).state := by
  cases i <;> cases hc
  · show KeepsSession s (Res.state (if s.collecting then .raise (protocolViolation 1) s
      else .ok [] { s with collecting := true }))
    split <;> exact ⟨rfl, rfl, rfl, rfl, rfl, rfl, rfl, rfl, rfl, List.prefix_refl _⟩
  · exact flushCommand_keeps s
  · exact resetCommand_keeps s
  · exact bitCommand_keeps _ s (wbitBody_keeps _)
  · exact bitCommand_keeps _ s rbitBody_keeps
  · exact bitCommand_keeps _ s (wbyteBody_keeps _)
  · exact bitCommand_keeps _ s rbyteBody_keeps
  · exact pullupCommand_keeps _ s
  · exact searchCommand_keeps s

end Sys2Proof.Machine
end

