-- ==== Sys2Proof/Laws/PerInstr.lean ====
section
/-! SUPPORT. Statements made per instruction: the word of a command carries its row's opcode, and zero in every bit that
its format fixes (30_encoding.md R70-R77). -/

namespace Sys2Proof.Laws

/-- The command's word matches its row: the opcode, and zero in the bits its format fixes. -/
def EncodeMatchesRow.Statement (i : Instr) : Prop := encode i &&& i.format.mask = matchValue i.opcode

/-- A word whose format fixes only the opcode matches its row. -/
theorem EncodeMatchesRow.of_formatU (o : Byte) (u : BitVec 24) : (o ++ u) &&& Format.u.mask = matchValue o := by
  have h : Format.u.mask = 0xFF#8 ++ 0#24 := by decide
  have e : o &&& 0xFF#8 = o := by revert o; decide +kernel
  rw [h, BitVec.and_append, e]
  simp [matchValue]

theorem EncodeMatchesRow.nop : EncodeMatchesRow.Statement .nop := rfl

theorem EncodeMatchesRow.tq (iv : BitVec 4) : EncodeMatchesRow.Statement (.tq iv) := by
  unfold EncodeMatchesRow.Statement; revert iv; decide

theorem EncodeMatchesRow.tqn (u : BitVec 24) : EncodeMatchesRow.Statement (.tqn u) := EncodeMatchesRow.of_formatU _ u

theorem EncodeMatchesRow.mode (m : Mode) : EncodeMatchesRow.Statement (.mode m) := by
  cases m <;> rfl

theorem EncodeMatchesRow.beginBatch : EncodeMatchesRow.Statement .beginBatch := rfl

theorem EncodeMatchesRow.flush : EncodeMatchesRow.Statement .flush := rfl

theorem EncodeMatchesRow.reset : EncodeMatchesRow.Statement .reset := rfl

theorem EncodeMatchesRow.wbit (b : Bool) : EncodeMatchesRow.Statement (.wbit b) := by
  cases b <;> rfl

theorem EncodeMatchesRow.rbit : EncodeMatchesRow.Statement .rbit := rfl

theorem EncodeMatchesRow.wbyte (d : Byte) : EncodeMatchesRow.Statement (.wbyte d) := by
  unfold EncodeMatchesRow.Statement; revert d; decide +kernel

theorem EncodeMatchesRow.rbyte : EncodeMatchesRow.Statement .rbyte := rfl

theorem EncodeMatchesRow.pullup (u : BitVec 24) : EncodeMatchesRow.Statement (.pullup u) :=
  EncodeMatchesRow.of_formatU _ u

theorem EncodeMatchesRow.crci (w : CrcWidth) : EncodeMatchesRow.Statement (.crci w) := by
  cases w <;> rfl

theorem EncodeMatchesRow.crcb (d : Byte) : EncodeMatchesRow.Statement (.crcb d) := by
  unfold EncodeMatchesRow.Statement; revert d; decide +kernel

theorem EncodeMatchesRow.crcr : EncodeMatchesRow.Statement .crcr := rfl

theorem EncodeMatchesRow.crcc : EncodeMatchesRow.Statement .crcc := rfl

theorem EncodeMatchesRow.search : EncodeMatchesRow.Statement .search := rfl

theorem EncodeMatchesRow.rdreg (r : BitVec 3) : EncodeMatchesRow.Statement (.rdreg r) := by
  unfold EncodeMatchesRow.Statement; revert r; decide

end Sys2Proof.Laws
end

