-- ==== Sys2Proof/Tests/Slice0.lean ====
section
/-! SUPPORT. The model's own tests: the well-formedness smoke test, a written-out word for every command, small
one-step tests whose expected results are those of spec/95_test_vectors.md or of the examples in the rules, and for every
obligation with hypotheses a witness that meets them. -/

namespace Sys2Proof.Tests

open Sys2Proof.Machine

/-! ## Well-formedness -/

theorem test_tq_index_11_is_ill_formed : (Instr.tq 11#4).wellFormed = false := rfl

theorem test_tq_index_15_is_ill_formed : (Instr.tq 15#4).wellFormed = false := rfl

theorem test_tq_index_10_is_well_formed : (Instr.tq 10#4).wellFormed = true := rfl

theorem test_rdreg_6_and_7_are_ill_formed :
    (Instr.rdreg 6#3).wellFormed = false ∧ (Instr.rdreg 7#3).wellFormed = false := ⟨rfl, rfl⟩

theorem test_rdreg_5_is_well_formed : (Instr.rdreg 5#3).wellFormed = true := rfl

/-! ## Decoding: one word for each command, written out from 30_encoding.md R70-R77 (opcode byte, then operand) -/

theorem test_decode_nop : decode 0b00000000000000000000000000000000#32 = .ok .nop := by decide
theorem test_decode_tq : decode 0b00000001000000000000000000001001#32 = .ok (.tq 9#4) := by decide
theorem test_decode_tqn : decode 0b00000010000000001111101000000000#32 = .ok (.tqn 64000#24) := by decide
theorem test_decode_mode : decode 0b00000011000000000000000000000001#32 = .ok (.mode .od) := by decide
theorem test_decode_begin : decode 0b00001000000000000000000000000000#32 = .ok .beginBatch := by decide
theorem test_decode_flush : decode 0b00001001000000000000000000000000#32 = .ok .flush := by decide
theorem test_decode_reset : decode 0b00010000000000000000000000000000#32 = .ok .reset := by decide
theorem test_decode_wbit : decode 0b00010001000000000000000000000001#32 = .ok (.wbit true) := by decide
theorem test_decode_rbit : decode 0b00010010000000000000000000000000#32 = .ok .rbit := by decide
theorem test_decode_wbyte : decode 0b00010011000000000000000001000100#32 = .ok (.wbyte 0x44#8) := by decide
theorem test_decode_rbyte : decode 0b00010100000000000000000000000000#32 = .ok .rbyte := by decide
theorem test_decode_pullup : decode 0b00010101000010110111000110110000#32 = .ok (.pullup 750000#24) := by decide
theorem test_decode_crci : decode 0b00100000000000000000000000000001#32 = .ok (.crci .crc16) := by decide
theorem test_decode_crcb : decode 0b00100001000000000000000011111111#32 = .ok (.crcb 0xFF#8) := by decide
theorem test_decode_crcr : decode 0b00100010000000000000000000000000#32 = .ok .crcr := by decide
theorem test_decode_crcc : decode 0b00100011000000000000000000000000#32 = .ok .crcc := by decide
theorem test_decode_search : decode 0b00110000000000000000000000000000#32 = .ok .search := by decide
theorem test_decode_rdreg : decode 0b01000000000000000000000000000101#32 = .ok (.rdreg 5#3) := by decide

/-- V-ENC: words that do not decode. -/
theorem test_decode_refuses :
    decode 0x03000002#32 = .error .mustBeZeroBit ∧ decode 0x11000002#32 = .error .mustBeZeroBit ∧
    decode 0x13000144#32 = .error .mustBeZeroBit ∧ decode 0x24000000#32 = .error .unassignedOpcode ∧
    decode 0x01000010#32 = .error .mustBeZeroBit ∧ decode 0x40000008#32 = .error .mustBeZeroBit ∧
    decode 0x30000001#32 = .error .mustBeZeroBit ∧ decode 0xFF000000#32 = .error .unassignedOpcode := by decide

/-! ## Small states -/

/-- A session whose trace and responses start empty, with scripted answers. -/
def session (pullup : Option Pin) (od : Bool) (ws : List WriteAnswer) (rs : List ReadKind) (bs : List Bool) : State :=
  { State.created hardwareParams 0#4 pullup od with writeAnswers := ws, readAnswers := rs, samples := bs }

/-- S0 of 95_test_vectors.md, with scripted answers. -/
def s0 (ws : List WriteAnswer) (rs : List ReadKind) (bs : List Bool) : State := session none false ws rs bs

/-- Nothing is scripted. -/
def quiet : State := s0 [] [] []

/-- An explicit batch is open. -/
def openBatch (s : State) : State := { s with collecting := true }

/-- The transport is dead. -/
def dead (s : State) : State := { s with transportDead := true }

/-- A read has timed out. -/
def suspect (s : State) : State := { s with busSuspect := true }

/-- The overdrive timing is in force. -/
def overdrive (s : State) : State := { s with mode := .od }

/-- The host has issued this input. -/
def issued (x : HostInput) (s : State) : State := { s with hostQueue := [x] }

/-- A view of the next state. -/
def view {α : Type} (f : State → α) : Host.Outcome State Fault Refusal → Option α
  | .next t => some (f t)
  | .fault _ => none
  | .refused _ => none

/-- The response of a command run on a session without responses. -/
def answer (o : Host.Outcome State Fault Refusal) : Option (List Response) := view State.responses o

/-- The events of a command run on a session without events. -/
def events (o : Host.Outcome State Fault Refusal) : Option (List Event) := view State.trace o

/-- Numbers as response values. -/
def nums (ns : List Nat) : List Value := ns.map .num

/-- The two samples of each slot that reads a byte, both at the bit's level. -/
def byteSamples (d : Byte) : List Bool := ((byteBits d).map fun b => [b, b]).flatten

/-- LOW and REL of 95_test_vectors.md section 0. -/
def low : Elem := .gpio 0x0000#16 0x0001#16
def rel : Elem := .gpio 0x0001#16 0x0000#16

/-! ## One step of each command -/

/-- V-NOP. -/
theorem test_nop : exec .nop quiet = .next { quiet with responses := [⟨.ok, []⟩] } := rfl

/-- W-11. -/
theorem test_tq_b : answer (exec (.tq 1#4) quiet) = some [⟨.ok, nums [0x86, 0xBF, 0x03]⟩] := by decide

/-- V-TQ, the OD column. -/
theorem test_tq_j_overdrive : answer (exec (.tq 9#4) (overdrive quiet)) = some [⟨.ok, nums [0x86, 0x57, 0x02]⟩] := by
  decide

/-- W-5. -/
theorem test_tqn_64us : answer (exec (.tqn 64000#24) quiet) = some [⟨.ok, nums [0x86, 0xBF, 0x03]⟩] := by decide

/-- V-DIV: a length that wraps. -/
theorem test_tqn_wraps : answer (exec (.tqn 5000000#24) quiet) = some [⟨.ok, nums [0x86, 0xF7, 0x24]⟩] := by decide

/-- V-MODE. -/
theorem test_mode_od_not_configured :
    view (fun t => (t.responses, t.mode)) (exec (.mode .od) quiet) = some ([⟨.protocol, nums [7]⟩], .std) := by decide

/-- V-MODE. -/
theorem test_mode_od :
    view (fun t => (t.responses, t.mode)) (exec (.mode .od) (session none true [] [] [])) =
      some ([⟨.ok, []⟩], .od) := by decide

/-- W-8. -/
theorem test_begin_nested :
    view (fun t => (t.responses, statusReg t)) (exec .beginBatch (openBatch quiet)) =
      some ([⟨.protocol, nums [1]⟩], 0x00000501#32) := by decide

/-- V-FLUSH: nothing was appended. -/
theorem test_flush_empty_makes_no_call :
    view (fun t => (t.responses, t.trace, t.collecting)) (exec .flush (openBatch quiet)) =
      some ([⟨.ok, []⟩], [], false) := by decide

/-- 41_batch.md R127: `BEGIN; RBIT; RBIT; FLUSH` returns the first sample of each slot. -/
theorem test_flush_returns_first_samples :
    answer (exec .flush { openBatch (s0 [.ok] [.bits] [true, false, false, true]) with
      buf := [.sample, .sample, .sample, .sample], pend := [.bit 0, .bit 2] }) = some [⟨.ok, nums [1, 0]⟩] := by decide

/-- V-USB, steps 3 to 5, on the dead transport that step 1 leaves: the batch is discarded, and no event is recorded. -/
theorem test_flush_dead_transport_discards :
    (runCommands [.beginBatch, .rbit, .flush] (dead quiet)).map
        (fun t => (t.responses, t.buf, t.pend, t.collecting, t.trace)) =
      some ([⟨.ok, []⟩, ⟨.ok, [.token 0]⟩, ⟨.usb, nums [0]⟩], [], [], false, []) := by decide

/-- W-4: a responder. -/
theorem test_reset_presence :
    view (fun t => (t.responses, t.trace, statusReg t)) (exec .reset (s0 [.ok] [.bits] [false, true])) =
      some ([⟨.ok, nums [1]⟩],
        [.txWrite [low, .delay .h .std 7199#16, rel, .delay .i .std 1049#16, .sample, .delay .j .std 6149#16, .sample],
          .txRead 2 (.bits [false, true])], 0x00000002#32) := by decide

/-- P3: the fallback from overdrive. -/
theorem test_reset_falls_back :
    view (fun t => (t.responses, t.mode, t.trace.length))
        (exec .reset (overdrive (session none true [.ok, .ok] [.bits, .bits] [true, true, false, true]))) =
      some ([⟨.ok, nums [1]⟩], .std, 4) := by decide

/-- W-10: write 0 in standard speed. -/
theorem test_wbit_0 :
    events (exec (.wbit false) (s0 [.ok] [] [])) =
      some [.txWrite [low, .delay .c .std 899#16, rel, .delay .d .std 149#16]] := by decide

/-- W-10: write 1 in overdrive. -/
theorem test_wbit_1_overdrive :
    events (exec (.wbit true) (overdrive (s0 [.ok] [] []))) =
      some [.txWrite [low, .delay .a .od 14#16, rel, .delay .b .od 112#16]] := by decide

/-- 42_bitbyte.md R154 with the samples apart: the first counts (R155). -/
theorem test_rbit_first_sample :
    view (fun t => (t.responses, t.trace)) (exec .rbit (s0 [.ok] [.bits] [false, true])) =
      some ([⟨.ok, nums [0]⟩],
        [.txWrite [low, .delay .a .std 89#16, rel, .delay .e .std 134#16, .sample, .delay .f .std 824#16, .sample],
          .txRead 2 (.bits [false, true])]) := by decide

/-- V-ERR: the read answers `UsbErr`. -/
theorem test_rbit_read_fails :
    view (fun t => (t.responses, statusReg t)) (exec .rbit (s0 [.ok] [.usbErr] [])) =
      some ([⟨.usb, nums [2]⟩], 0x00000616#32) := by decide

/-- 42_bitbyte.md R156: the example of 0x01. -/
theorem test_wbyte_01 :
    events (exec (.wbyte 0x01#8) (s0 [.ok] [] [])) =
      some [.txWrite ([low, .delay .a .std 89#16, rel, .delay .b .std 959#16] ++
        (List.replicate 7 [low, .delay .c .std 899#16, rel, .delay .d .std 149#16]).flatten)] := by decide

/-- 42_bitbyte.md R158: the example of 0x14, with second samples that differ. -/
theorem test_rbyte_14 :
    view (fun t => (t.responses, t.trace.length))
        (exec .rbyte (s0 [.ok] [.bits] [false, true, false, true, true, false, false, true, true, false, false, true,
          false, true, false, true])) = some ([⟨.ok, nums [0x14]⟩], 2) := by decide

/-- W-7. -/
theorem test_pullup_without_batch :
    view (fun t => (t.responses, t.trace, statusReg t)) (exec (.pullup 10000#24) quiet) =
      some ([⟨.protocol, nums [5]⟩], [], 0x00000500#32) := by decide

/-- P4: the pullup pin is raised for the sleep and lowered after it. -/
theorem test_pullup_drives_pin :
    view (fun t => (t.responses, t.trace.take 3, gpioReg t))
        (exec (.pullup 750000#24) (openBatch (session (some 1#4) false [.ok, .ok, .ok] [.bits] (byteSamples 0xFF#8)))) =
      some ([⟨.ok, nums [0xFF]⟩],
        [.txWrite [.gpio 0x0003#16 0x0002#16], .sleep 750000, .txWrite [.gpio 0x0001#16 0x0002#16]],
        0x00020001#32) := by decide

/-- 43_crc.md R172. -/
theorem test_crci_16 : view crcReg (exec (.crci .crc16) { quiet with crcAcc := 0xA2#16 }) = some 0x00010000#32 := by decide

/-- W-9. -/
theorem test_crcb_crc8 : view State.crcAcc (exec (.crcb 0x01#8) quiet) = some 0x5E#16 := by decide

/-- W-9. -/
theorem test_crcb_crc16 :
    view State.crcAcc (exec (.crcb 0x01#8) { quiet with crcWidth := .crc16 }) = some 0xC0C1#16 := by decide

/-- W-1: `02 1C B8 01 00 00 00` has CRC-8 0xA2, `0F 00 00 AA 55` has CRC-16 0x9EEA. -/
theorem test_crc_messages :
    crc8 [0x02#8, 0x1C#8, 0xB8#8, 0x01#8, 0x00#8, 0x00#8, 0x00#8] = 0xA2#8 ∧
    crc16 [0x0F#8, 0x00#8, 0x00#8, 0xAA#8, 0x55#8] = 0x9EEA#16 := by decide +kernel

/-- 43_crc.md R175. -/
theorem test_crcr : answer (exec .crcr { quiet with crcAcc := 0x9EEA#16 }) = some [⟨.ok, nums [0x9EEA]⟩] := by decide

/-- P1, its variant. -/
theorem test_crcc_residue :
    view (fun t => (t.responses, t.crcAcc, statusReg t)) (exec .crcc { quiet with crcAcc := 0xE2#16 }) =
      some ([⟨.crc, nums [0xE2]⟩], 0xE2#16, 0x00000300#32) := by decide

/-- 30_encoding.md R83. -/
theorem test_pseudo_instructions :
    (Pseudo.crcOk .crc8 [0x28#8]).words = [0x20000000#32, 0x21000028#32, 0x23000000#32] ∧
    (Pseudo.crc .crc16 []).expand = [.crci .crc16, .crcr] ∧ (Pseudo.rbytes 2).words = [0x14000000#32, 0x14000000#32] ∧
    (Pseudo.wbytes [0xCC#8, 0x44#8]).words = [0x130000CC#32, 0x13000044#32] := by decide

/-- V-SRCH-7: no device answers the first poll. -/
theorem test_search_path_empty :
    view (fun t => (t.responses, writeCount t.trace, readCount t.trace))
        (exec .search (s0 [.ok, .ok, .ok, .ok] [.bits, .bits, .bits] [false, true, true, true, true, true])) =
      some ([⟨.ok, []⟩], 4, 3) := by decide

/-- V-SRCH-11: a read times out in the middle of the search (here the first poll). -/
theorem test_search_times_out :
    view (fun t => (t.responses, statusReg t))
        (exec .search (s0 [.ok, .ok, .ok] [.bits, .timeout] [false, true])) =
      some ([⟨.timeout, nums [2]⟩], 0x0000040E#32) := by decide

/-- V-REG: CONFIG with DATA_PIN 3, PULLUP_PIN 9 and overdrive. -/
theorem test_rdreg_config :
    answer (exec (.rdreg 0#3) (State.created hardwareParams 3#4 (some 9#4) true)) =
      some [⟨.ok, nums [0x00000393]⟩] := by decide

/-- V-REG: GPIO of the same session. -/
theorem test_rdreg_gpio :
    answer (exec (.rdreg 3#3) (State.created hardwareParams 3#4 (some 9#4) true)) =
      some [⟨.ok, nums [0x02000008]⟩] := by decide

/-- V-SRCH-6: a code packed most significant bit first fails its CRC-8. -/
theorem test_msb_packing_fails_crc :
    crc8 [0x14#8, 0xFF#8, 0x32#8, 0x54#8, 0x86#8, 0x68#8, 0xC0#8, 0x82#8] = 0x9A#8 := by decide +kernel

/-! ## Witnesses: the hypotheses of the statements can be met -/

theorem witness_DecodeOfEncode : (Instr.tq 10#4).wellFormed = true ∧ (Instr.rdreg 5#3).wellFormed = true := ⟨rfl, rfl⟩

theorem witness_EncodeOfDecode : decode 0x40000005#32 = .ok (.rdreg 5#3) := by decide

/-- One word for each of the four causes. -/
theorem witness_IllegalWordOnlyAnswers :
    (issued (.command 0x04000000#32) quiet).hostQueue = [.command 0x04000000#32] ∧
    (∀ row ∈ opcodeRows, row.op ≠ (0x04000000#32).extractLsb' 24 8) ∧
    (∃ row ∈ opcodeRows, row.op = (0x00000001#32).extractLsb' 24 8 ∧
      0x00000001#32 &&& row.format.mask ≠ matchValue row.op) ∧
    ((0x0100000B#32).extractLsb' 24 8 = 0x01#8 ∧ 10 < (0x0100000B#32).toNat % 16) ∧
    ((0x40000006#32).extractLsb' 24 8 = 0x40#8 ∧ 5 < (0x40000006#32).toNat % 8) := by
  refine ⟨rfl, by decide, ⟨⟨0x00#8, .n, fun _ => .nop⟩, ?_, by decide⟩, by decide, by decide⟩
  exact List.mem_cons_self

theorem witness_StepRunsDecodedCommand :
    (issued (.command 0x13000044#32) quiet).hostQueue = .command 0x13000044#32 :: [] ∧
    decode 0x13000044#32 = .ok (.wbyte 0x44#8) ∧
    (issued (.init 3#4 (some 9#4) true) quiet).hostQueue = .init 3#4 (some 9#4) true :: [] ∧
    quiet.hostQueue = [] ∧ (Instr.pullup 0xFFFFFF#24).wellFormed = true := ⟨rfl, by decide, rfl, rfl, rfl⟩

theorem witness_InitCreatesSession :
    (issued (.init 3#4 (some 9#4) true) (dead (s0 [.ok, .ok, .usbErr] [] []))).hostQueue =
      .init 3#4 (some 9#4) true :: [] ∧
    some 9#4 ≠ some 3#4 ∧ pinExists quiet.params 3#4 = true ∧ pinExists quiet.params 9#4 = true ∧
    (issued (.init 3#4 (some 9#4) true) (dead (s0 [.ok, .ok, .usbErr] [] []))).writeAnswers =
      .ok :: .ok :: [.usbErr] := ⟨rfl, by decide, by decide, by decide, rfl⟩

theorem witness_FailedInitLeavesDeadTransport :
    (issued (.init 3#4 (some 3#4) true) quiet).hostQueue = .init 3#4 (some 3#4) true :: [] ∧
    (issued (.init 3#4 none true) (s0 [.usbErr] [] [])).hostQueue = .init 3#4 none true :: [] ∧
    none ≠ some 3#4 ∧ pinExists quiet.params 3#4 = true ∧
    (s0 [.usbErr] [] []).writeAnswers = .usbErr :: [] ∧
    (s0 [.ok, .usbErr] [] []).writeAnswers = .ok :: .usbErr :: [] ∧
    pinExists { hardwareParams with gpioWidth := 8 } 7#4 = true ∧
    pinExists { hardwareParams with gpioWidth := 8 } 8#4 = false :=
  ⟨rfl, rfl, by decide, by decide, rfl, rfl, by decide, by decide⟩

/-- The first and the last index out of range, for TQ and for RDREG. -/
theorem witness_OperandsOutOfRangeAreIllegal :
    10 < (11#4).toNat ∧ 10 < (15#4).toNat ∧ 5 < (6#3).toNat ∧ 5 < (7#3).toNat := by decide

/-- The last index, with a length given to Z and with none. -/
theorem witness_TqReturnsClockSet :
    intervalOfIndex 9#4 = some .j ∧ lengthOf quiet.params quiet.mode .j = some 410000 ∧
    intervalOfIndex 10#4 = some .z ∧
    lengthOf { hardwareParams with tStd := { stdTable with z := some 1 } } .std .z = some 1 ∧
    (tableOf quiet.params quiet.mode).z = none := by decide

theorem witness_TqReturnsHardwareDivisors : quiet.params = hardwareParams := rfl

theorem witness_TqnReturnsClockSet : quiet.params = hardwareParams ∧ (0#24).toNat = 0 ∧ (1#24).toNat ≠ 0 := by decide

theorem witness_DivisorIsLeastCeiling : 16 ≤ 16 ∧ 0 < 30000000 ∧ 0 < 1 := by decide

theorem witness_NopAndModeAnswer :
    quiet.cfgOdSupported = false ∧ (session none true [] [] []).cfgOdSupported = true := ⟨rfl, rfl⟩

theorem witness_BeginOpensBatch : quiet.collecting = false ∧ (openBatch quiet).collecting = true := ⟨rfl, rfl⟩

theorem witness_FlushWithoutTransportCall :
    quiet.collecting = false ∧
    ((openBatch (dead quiet)).collecting = true ∧ (openBatch (dead quiet)).transportDead = true) ∧
    ((openBatch quiet).collecting = true ∧ (openBatch quiet).transportDead = false ∧ (openBatch quiet).buf = []) :=
  ⟨rfl, ⟨rfl, rfl⟩, rfl, rfl, rfl⟩

/-- A batch of one read slot, and a batch of one write slot. -/
def readBatch (ws : List WriteAnswer) (rs : List ReadKind) (bs : List Bool) : State :=
  { openBatch (s0 ws rs bs) with buf := readElems quiet, pend := [.bit 0] }

def writeBatch (ws : List WriteAnswer) : State := { openBatch (s0 ws [] []) with buf := writeElems quiet true }

theorem witness_FlushReturnsPendingValues :
    ((readBatch [.ok] [.bits] [true, false]).collecting = true ∧
      (readBatch [.ok] [.bits] [true, false]).transportDead = false ∧
      (readBatch [.ok] [.bits] [true, false]).buf ≠ [] ∧
      (readBatch [.ok] [.bits] [true, false]).writeAnswers = .ok :: [] ∧
      0 < nsamp (readBatch [.ok] [.bits] [true, false]).buf ∧
      [true, false].length = nsamp (readBatch [.ok] [.bits] [true, false]).buf ∧
      (readBatch [.ok] [.bits] [true, false]).readAnswers = .bits :: [] ∧
      (readBatch [.ok] [.bits] [true, false]).samples = [true, false] ++ []) ∧
    ((writeBatch [.ok]).collecting = true ∧ (writeBatch [.ok]).transportDead = false ∧ (writeBatch [.ok]).buf ≠ [] ∧
      (writeBatch [.ok]).writeAnswers = .ok :: [] ∧ nsamp (writeBatch [.ok]).buf = 0) := by decide

theorem witness_FlushFailureLosesBatch :
    ((readBatch [.usbErr] [] []).collecting = true ∧ (readBatch [.usbErr] [] []).transportDead = false ∧
      (readBatch [.usbErr] [] []).buf ≠ [] ∧ (readBatch [.usbErr] [] []).writeAnswers = .usbErr :: []) ∧
    (0 < nsamp (readBatch [.ok] [.usbErr] []).buf ∧ (readBatch [.ok] [.usbErr] []).writeAnswers = .ok :: [] ∧
      (readBatch [.ok] [.usbErr] []).readAnswers = .usbErr :: []) ∧
    (0 < nsamp (readBatch [.ok] [.timeout] []).buf ∧ (readBatch [.ok] [.timeout] []).writeAnswers = .ok :: [] ∧
      (readBatch [.ok] [.timeout] []).readAnswers = .timeout :: []) := by decide

/-- The same session with a batch of at most n elements. -/
def bounded (n : Nat) (s : State) : State := { s with params := { s.params with batchCapacity := some n } }

/-- The last number of elements that fits, and the first that does not. -/
theorem witness_OpenBatchCollects :
    (openBatch (dead quiet)).collecting = true ∧ (openBatch (dead quiet)).busSuspect = false ∧
    fitsBatch (openBatch (dead quiet)) ((openBatch (dead quiet)).buf.length + SlotCommand.rbyte.total) ∧
    fitsBatch (bounded 56 (openBatch quiet)) ((openBatch quiet).buf.length + SlotCommand.rbyte.total) ∧
    ¬fitsBatch (bounded 55 (openBatch quiet)) ((openBatch quiet).buf.length + SlotCommand.rbyte.total) := by
  unfold fitsBatch; decide

/-- 93_implementation_defined.md I22: a bounded batch that is full refuses. -/
theorem test_bounded_batch_refuses :
    exec .rbyte (bounded 55 (openBatch quiet)) = .refused .batchFull ∧
    view (fun t => t.buf.length) (exec .rbyte (bounded 56 (openBatch quiet))) = some 56 := ⟨rfl, by decide⟩

/-- A session in which bits can be written and read, whatever is scripted. -/
theorem ready_session (pullup : Option Pin) (od : Bool) (ws : List WriteAnswer) (rs : List ReadKind) (bs : List Bool) :
    Ready (session pullup od ws rs bs) := ⟨⟨rfl, rfl, rfl, rfl⟩, rfl⟩

theorem witness_UnbatchedWriteIsOneCall :
    Ready (s0 [.ok] [] []) ∧ (s0 [.ok] [] []).writeAnswers = .ok :: [] ∧ fitsBatch (s0 [.ok] [] []) 32 :=
  ⟨ready_session _ _ _ _ _, rfl, rfl⟩

theorem witness_ElementCounts :
    (openBatch quiet).collecting = true ∧ (openBatch quiet).busSuspect = false ∧
    fitsBatch (openBatch quiet) ((openBatch quiet).buf.length + SlotCommand.rbyte.total) ∧
    Idle (s0 [.ok] [.bits] [false, true]) ∧ fitsBatch (s0 [.ok] [.bits] [false, true]) 7 ∧
    (s0 [.ok] [.bits] [false, true]).writeAnswers = .ok :: [] ∧
    (s0 [.ok] [.bits] [false, true]).readAnswers = .bits :: [] ∧
    (s0 [.ok] [.bits] [false, true]).samples = false :: true :: [] :=
  ⟨rfl, rfl, rfl, (ready_session _ _ _ _ _).toIdle, rfl, rfl, rfl, rfl⟩

theorem witness_UnbatchedReadBitReturnsFirstSample :
    Ready (s0 [.ok] [.bits] [true, false]) ∧ (s0 [.ok] [.bits] [true, false]).writeAnswers = .ok :: [] ∧
    (s0 [.ok] [.bits] [true, false]).readAnswers = .bits :: [] ∧
    (s0 [.ok] [.bits] [true, false]).samples = true :: false :: [] ∧ fitsBatch (s0 [.ok] [.bits] [true, false]) 7 :=
  ⟨ready_session _ _ _ _ _, rfl, rfl, rfl, rfl⟩

theorem witness_UnbatchedReadByteReturnsFirstSamples :
    Ready (s0 [.ok] [.bits] (byteSamples 0xA5#8)) ∧ (s0 [.ok] [.bits] (byteSamples 0xA5#8)).writeAnswers = .ok :: [] ∧
    (s0 [.ok] [.bits] (byteSamples 0xA5#8)).readAnswers = .bits :: [] ∧
    (s0 [.ok] [.bits] (byteSamples 0xA5#8)).samples =
      ((List.range 8).map fun j => [(0xA5#8).getLsbD j, (0xA5#8).getLsbD j]).flatten ++ [] ∧
    fitsBatch (s0 [.ok] [.bits] (byteSamples 0xA5#8)) 56 :=
  ⟨ready_session _ _ _ _ _, rfl, rfl, by decide, rfl⟩

theorem witness_UnbatchedSlotFailures :
    (quiet.collecting = false ∧ quiet.buf = [] ∧ quiet.pend = []) ∧ (dead quiet).transportDead = true ∧
    quiet.transportDead = false ∧ quiet.busSuspect = false ∧ (s0 [.usbErr] [] []).writeAnswers = .usbErr :: [] ∧
    (s0 [.ok] [.usbErr] []).writeAnswers = .ok :: [] ∧ (s0 [.ok] [.usbErr] []).readAnswers = .usbErr :: [] ∧
    (s0 [.ok] [.timeout] []).readAnswers = .timeout :: [] ∧ 0 < SlotCommand.rbit.sampleCount ∧
    0 < SlotCommand.rbyte.sampleCount ∧ fitsBatch quiet SlotCommand.rbyte.total ∧
    ¬fitsBatch (bounded 3 quiet) (SlotCommand.wbit true).total := by unfold fitsBatch; decide

theorem witness_SuspectBusRefusesSlots :
    (suspect quiet).busSuspect = true ∧ (suspect quiet).transportDead = false ∧
    (openBatch (suspect (dead quiet))).busSuspect = true ∧ (openBatch (suspect (dead quiet))).collecting = true ∧
    (openBatch (suspect quiet)).collecting = true ∧ (openBatch (suspect quiet)).pend = [] ∧
    (openBatch (suspect quiet)).transportDead = false := by decide

theorem witness_StandardResetDetectsPresence :
    Idle (s0 [.ok] [.bits] [true, true]) ∧ (s0 [.ok] [.bits] [true, true]).mode = .std ∧
    (s0 [.ok] [.bits] [true, true]).writeAnswers = .ok :: [] ∧
    (s0 [.ok] [.bits] [true, true]).readAnswers = .bits :: [] ∧
    (s0 [.ok] [.bits] [true, true]).samples = true :: true :: [] ∧ fitsBatch (s0 [.ok] [.bits] [true, true]) 7 :=
  ⟨(ready_session _ _ _ _ _).toIdle, rfl, rfl, rfl, rfl, rfl⟩

/-- An idle session in overdrive. -/
def fast (ws : List WriteAnswer) (rs : List ReadKind) (bs : List Bool) : State := overdrive (session none true ws rs bs)

theorem idle_fast (ws : List WriteAnswer) (rs : List ReadKind) (bs : List Bool) : Idle (fast ws rs bs) :=
  ⟨rfl, rfl, rfl, rfl⟩

/-- W-10 in both modes: an open batch, and a reset that a device answers. -/
theorem witness_SlotsFollowTheTables :
    ((openBatch quiet).collecting = true ∧ (openBatch quiet).busSuspect = false ∧
      fitsBatch (openBatch quiet) ((openBatch quiet).buf.length + 7) ∧ (openBatch quiet).params = hardwareParams) ∧
    (Idle (fast [.ok] [.bits] [false, true]) ∧ fitsBatch (fast [.ok] [.bits] [false, true]) 7 ∧
      (fast [.ok] [.bits] [false, true]).writeAnswers = .ok :: [] ∧
      (fast [.ok] [.bits] [false, true]).readAnswers = .bits :: [] ∧
      (fast [.ok] [.bits] [false, true]).samples = false :: true :: [] ∧
      (fast [.ok] [.bits] [false, true]).params = hardwareParams) :=
  ⟨⟨rfl, rfl, rfl, rfl⟩, idle_fast _ _ _, rfl, rfl, rfl, rfl, rfl⟩

theorem witness_OverdriveResetFallsBackOnce :
    (Idle (fast [.ok] [.bits] [false, true]) ∧ (fast [.ok] [.bits] [false, true]).mode = .od ∧
      ¬(false = true ∧ true = true) ∧ (fast [.ok] [.bits] [false, true]).writeAnswers = .ok :: [] ∧
      (fast [.ok] [.bits] [false, true]).readAnswers = .bits :: [] ∧
      (fast [.ok] [.bits] [false, true]).samples = false :: true :: []) ∧
    (Idle (fast [.ok, .ok] [.bits, .bits] [true, true, true, true]) ∧
      (fast [.ok, .ok] [.bits, .bits] [true, true, true, true]).writeAnswers = .ok :: .ok :: [] ∧
      (fast [.ok, .ok] [.bits, .bits] [true, true, true, true]).readAnswers = .bits :: .bits :: [] ∧
      (fast [.ok, .ok] [.bits, .bits] [true, true, true, true]).samples = true :: true :: true :: true :: []) ∧
    fitsBatch (fast [.ok] [.bits] [false, true]) 7 :=
  ⟨⟨idle_fast _ _ _, rfl, by decide, rfl, rfl, rfl⟩, ⟨idle_fast _ _ _, rfl, rfl, rfl⟩, rfl⟩

theorem witness_ResetFailures :
    (openBatch quiet).collecting = true ∧ ((dead quiet).collecting = false ∧ (dead quiet).transportDead = true) ∧
    (Idle quiet ∧ fitsBatch quiet 7 ∧ Idle (bounded 6 quiet) ∧ ¬fitsBatch (bounded 6 quiet) 7) ∧
    ((s0 [.usbErr] [] []).writeAnswers = .usbErr :: [] ∧ (s0 [.ok] [.usbErr] []).writeAnswers = .ok :: [] ∧
      (s0 [.ok] [.usbErr] []).readAnswers = .usbErr :: [] ∧ (s0 [.ok] [.timeout] []).readAnswers = .timeout :: []) ∧
    (Idle (fast [.ok, .ok] [.bits, .timeout] [true, true]) ∧
      (fast [.ok, .ok] [.bits, .timeout] [true, true]).mode = .od ∧
      (fast [.ok, .ok] [.bits, .timeout] [true, true]).samples = true :: true :: [] ∧
      (fast [.ok, .usbErr] [.bits] [true, true]).writeAnswers = .ok :: .usbErr :: [] ∧
      (fast [.ok, .usbErr] [.bits] [true, true]).readAnswers = .bits :: [] ∧
      (fast [.ok, .ok] [.bits, .timeout] [true, true]).writeAnswers = .ok :: .ok :: [] ∧
      (fast [.ok, .ok] [.bits, .usbErr] [true, true]).readAnswers = .bits :: .usbErr :: [] ∧
      (fast [.ok, .ok] [.bits, .timeout] [true, true]).readAnswers = .bits :: .timeout :: []) :=
  ⟨rfl, ⟨rfl, rfl⟩,
    ⟨(ready_session _ _ _ _ _).toIdle, rfl, ⟨rfl, rfl, rfl, rfl⟩, by unfold fitsBatch; decide⟩,
    ⟨rfl, rfl, rfl, rfl⟩, idle_fast _ _ _, rfl, rfl, rfl, rfl, rfl, rfl, rfl⟩

theorem witness_PullupAndSearchMisuse :
    (openBatch quiet).collecting = true ∧ ((dead quiet).collecting = false ∧ (dead quiet).transportDead = true) ∧
    ((readBatch [] [] []).collecting = true ∧ (readBatch [] [] []).pend ≠ []) ∧
    ((openBatch (dead quiet)).collecting = true ∧ (openBatch (dead quiet)).pend = [] ∧
      (openBatch (dead quiet)).transportDead = true) := by decide

/-- The pullup pin is pin 15, the last one. -/
def pullupBatch : State := openBatch (session (some 15#4) false [.ok, .ok, .ok] [.bits] (byteSamples 0xAA#8))

theorem witness_PullupWithPinDrivesIt :
    pullupBatch.collecting = true ∧ pullupBatch.pend = [] ∧ nsamp pullupBatch.buf = 0 ∧
    pullupBatch.transportDead = false ∧ pullupBatch.busSuspect = false ∧ pullupBatch.cfgPullup = some 15#4 ∧
    pullupBatch.writeAnswers = .ok :: .ok :: .ok :: [] ∧ pullupBatch.readAnswers = .bits :: [] ∧
    pullupBatch.samples = ((List.range 8).map fun j => [(0xAA#8).getLsbD j, (0xAA#8).getLsbD j]).flatten ++ [] ∧
    fitsBatch pullupBatch (pullupBatch.buf.length + 1) ∧ fitsBatch pullupBatch 56 := by
  unfold fitsBatch; decide

/-- With an empty batch, and with a write slot in it. -/
theorem witness_PullupWithoutPinFlushesAndSleeps :
    ((openBatch (s0 [.ok] [.bits] (byteSamples 0xAA#8))).cfgPullup = none ∧
      (openBatch (s0 [.ok] [.bits] (byteSamples 0xAA#8))).buf = [] ∧
      (openBatch (s0 [.ok] [.bits] (byteSamples 0xAA#8))).writeAnswers = [.ok] ++ []) ∧
    ((writeBatch [.ok, .ok]).pend = [] ∧ (writeBatch [.ok, .ok]).buf ≠ [] ∧ nsamp (writeBatch [.ok, .ok]).buf = 0 ∧
      (writeBatch [.ok, .ok]).writeAnswers =
        (if (writeBatch [.ok, .ok]).buf = [] then [.ok] else [.ok, .ok]) ++ []) ∧
    (openBatch (s0 [.ok] [.bits] (byteSamples 0xAA#8))).readAnswers = .bits :: [] ∧
    (openBatch (s0 [.ok] [.bits] (byteSamples 0xAA#8))).samples =
      ((List.range 8).map fun j => [(0xAA#8).getLsbD j, (0xAA#8).getLsbD j]).flatten ++ [] ∧
    fitsBatch (writeBatch [.ok, .ok]) 56 := by
  unfold fitsBatch; decide

/-- A batch in which PULLUP can run, with the pullup pin 15 or none. -/
def pullupState (q : Option Pin) (ws : List WriteAnswer) (rs : List ReadKind) : State :=
  openBatch (session q false ws rs [])

theorem witness_PullupFailures :
    ((pullupState (some 15#4) [] []).collecting = true ∧ (pullupState (some 15#4) [] []).pend = [] ∧
      nsamp (pullupState (some 15#4) [] []).buf = 0 ∧ (pullupState (some 15#4) [] []).transportDead = false ∧
      (pullupState (some 15#4) [] []).busSuspect = false ∧ (pullupState (some 15#4) [] []).cfgPullup = some 15#4 ∧
      (pullupState none [] []).cfgPullup = none) ∧
    (fitsBatch (pullupState (some 15#4) [] []) ((pullupState (some 15#4) [] []).buf.length + 1) ∧
      fitsBatch (pullupState (some 15#4) [] []) 56 ∧
      ¬fitsBatch (bounded 0 (pullupState (some 15#4) [] [])) ((pullupState (some 15#4) [] []).buf.length + 1) ∧
      fitsBatch (bounded 55 (pullupState (some 15#4) [] [])) ((pullupState (some 15#4) [] []).buf.length + 1) ∧
      ¬fitsBatch (bounded 55 (pullupState (some 15#4) [.ok, .ok] [])) 56) ∧
    ((pullupState none [.usbErr] []).writeAnswers = .usbErr :: [] ∧
      (pullupState none [.ok, .usbErr] []).writeAnswers = .ok :: .usbErr :: [] ∧
      (pullupState none [.ok, .ok, .usbErr] []).writeAnswers = .ok :: .ok :: .usbErr :: [] ∧
      (pullupState none [.ok, .ok, .ok] []).writeAnswers = .ok :: .ok :: .ok :: [] ∧
      (pullupState none [] [.usbErr]).readAnswers = .usbErr :: [] ∧
      (pullupState none [] [.timeout]).readAnswers = .timeout :: []) ∧
    ((writeBatch [.usbErr]).buf ≠ [] ∧ (writeBatch [.usbErr]).writeAnswers = .usbErr :: [] ∧
      (writeBatch [.ok, .usbErr]).writeAnswers =
        (if (writeBatch [.ok, .usbErr]).buf = [] then [] else [.ok]) ++ .usbErr :: []) := by
  unfold fitsBatch; decide

theorem witness_CrcCommandsAnswer :
    quiet.crcWidth = .crc8 ∧ { quiet with crcWidth := .crc16 }.crcWidth = .crc16 ∧ quiet.crcAcc = 0#16 ∧
    { quiet with crcAcc := 0xFFFF#16 }.crcAcc ≠ 0#16 := by decide

/-- The last bit of the last byte of a message, and the first bit of the first. -/
theorem witness_SingleBitFlipIsDetected :
    [0x01#8, 0x5E#8] = [0x01#8] ++ [crc8 [0x01#8]] ∧ [0x01#8, 0x5E#8][0]? = some 0x01#8 ∧
    [0x01#8, 0x5E#8][1]? = some 0x5E#8 ∧
    [0x01#8, 0xC1#8, 0xC0#8] =
      [0x01#8] ++ [(crc16 [0x01#8]).extractLsb' 0 8, (crc16 [0x01#8]).extractLsb' 8 8] ∧
    [0x01#8, 0xC1#8, 0xC0#8][2]? = some 0xC0#8 := by decide

/-- The last level that is replayed, and the first that is not. -/
theorem witness_SearchLevelFollowsThePoll :
    ([false, true][1]? = some true ∧ [false, true].length ≤ 2 ∧ ([] : List Bool).length ≤ 0) ∧
    (Idle (s0 [.ok, .ok, .ok] [.bits, .bits] [true, true, true, false]) ∧
      fitsBatch (s0 [.ok, .ok, .ok] [.bits, .bits] [true, true, true, false]) 7 ∧
      (s0 [.ok, .ok, .ok] [.bits, .bits] [true, true, true, false]).writeAnswers = .ok :: .ok :: [.ok] ∧
      (s0 [.ok, .ok, .ok] [.bits, .bits] [true, true, true, false]).readAnswers = .bits :: .bits :: [] ∧
      (s0 [.ok, .ok, .ok] [.bits, .bits] [true, true, true, false]).samples = true :: true :: true :: false :: []) ∧
    (chooseLevel [] 1 true true = .comms ∧ chooseLevel [] 0 true true = .pathEmpty ∧
      chooseLevel [true] 0 false false = .take true ∧ chooseLevel [true] 1 false false = .fork) :=
  ⟨by decide, ⟨(ready_session _ _ _ _ _).toIdle, rfl, rfl, rfl, rfl⟩, by decide⟩

/-- A pass that replays two bits above a path of one, on a bus where no device answers the reset. -/
theorem witness_SearchStackStaysBounded :
    [false, true].length ≤ quiet.params.romBits ∧ stackInOrder quiet.params.romBits [[true]] ∧ (∀ p ∈ [[true]], p.length < [false, true].length) ∧
    ∃ t, searchPass [false, true] [[true]] (s0 [.ok] [.bits] [true, true]) = .ok (none, [[true]]) t := by
  refine ⟨by decide, ⟨by decide, by decide⟩, by decide, _, rfl⟩

theorem witness_SearchEndsWithinItsBound : 2 ^ quiet.params.romBits ≤ 2 ^ 64 := Nat.le_refl _

/-- The bits of a ROM code in the order of the search (44_search.md R196). -/
def codeBits (code : List Byte) : List Bool := (code.map byteBits).flatten

/-- The device with a code of these bytes. -/
def deviceOf (code : List Byte) : Device := ⟨codeBits code, code⟩

/-- The two devices of V-SRCH-3, in the order SEARCH finds them. -/
def twoDevices : List Device :=
  [deviceOf [0x10#8, 0x02#8, 0x00#8, 0x00#8, 0x00#8, 0x00#8, 0x00#8, 0x95#8],
   deviceOf [0x10#8, 0x01#8, 0x00#8, 0x00#8, 0x00#8, 0x00#8, 0x00#8, 0xCC#8]]

/-- The ideal bus of two devices: 194 writes and 129 reads for each. -/
def twoDeviceBus : State :=
  s0 (List.replicate (194 * twoDevices.length) .ok) (List.replicate (129 * twoDevices.length) .bits)
    (idealSearch 64 (twoDevices.map Device.path))

/-- `spells` from finitely many bits. -/
theorem spells_of_all {code : List Byte} {path : List Bool} (hl : code.length = (path.length + 7) / 8)
    (h : ∀ j < code.length, ∀ k < 8, (code.getD j 0#8).getLsbD k = path.getD (8 * j + k) false) : spells code path :=
  ⟨hl, fun j k hj hk => h j hj k hk⟩

theorem twoDevices_valid : ∀ d ∈ twoDevices, d.Valid 64 := by
  have h : ∀ d ∈ twoDevices, d.path.length = 64 ∧ d.code.length = (d.path.length + 7) / 8 ∧
      (∀ j < d.code.length, ∀ k < 8, (d.code.getD j 0#8).getLsbD k = d.path.getD (8 * j + k) false) ∧
      crc8 d.code = 0#8 := by decide +kernel
  exact fun d hd => ⟨(h d hd).1, spells_of_all (h d hd).2.1 (h d hd).2.2.1, (h d hd).2.2.2⟩

theorem witness_SearchFindsTheIdealBus :
    Idle twoDeviceBus ∧ twoDeviceBus.params.romBits = 64 ∧ fitsBatch twoDeviceBus 32 ∧
    fitsResults twoDeviceBus twoDevices.length ∧ twoDevices ≠ [] ∧ (∀ d ∈ twoDevices, d.Valid 64) ∧
    (twoDevices.map Device.path).Pairwise searchedBefore ∧
    twoDeviceBus.writeAnswers = List.replicate ((2 + 3 * 64) * twoDevices.length) .ok ++ [] ∧
    twoDeviceBus.readAnswers = List.replicate ((1 + 2 * 64) * twoDevices.length) .bits ++ [] ∧
    twoDeviceBus.samples = idealSearch 64 (twoDevices.map Device.path) ++ [] := by
  refine ⟨(ready_session _ _ _ _ _).toIdle, rfl, rfl, rfl, by decide, twoDevices_valid, ?_, ?_, ?_, ?_⟩
  · refine .cons ?_ (.cons (fun e h => by cases h) .nil)
    intro e he
    obtain rfl := List.mem_singleton.mp he
    exact ⟨8, by decide, by decide, by decide⟩
  all_goals exact (List.append_nil _).symm

/-- The device of V-SRCH-1. -/
def oneDevice : List Bool := codeBits [0x28#8, 0xFF#8, 0x4C#8, 0x2A#8, 0x61#8, 0x16#8, 0x03#8, 0x41#8]

/-- The ideal bus of one device. -/
def oneDeviceBus : State :=
  s0 (List.replicate 194 .ok) (List.replicate 129 .bits) ([false, true] ++ forcedPolls oneDevice)

/-- V-SRCH-1: the code, the counts of transport calls and STATUS. -/
theorem test_search_single_device :
    view (fun t => (t.responses, writeCount t.trace, readCount t.trace, statusReg t)) (exec .search oneDeviceBus) =
      some ([⟨.ok, [.rom [0x28#8, 0xFF#8, 0x4C#8, 0x2A#8, 0x61#8, 0x16#8, 0x03#8, 0x41#8]]⟩], 194, 129,
        0x00000006#32) := by decide +kernel

theorem witness_SearchOfEmptyBusIsEmpty :
    (Idle (s0 [.ok] [.bits] [true, true]) ∧ fitsBatch (s0 [.ok] [.bits] [true, true]) 32 ∧
      (s0 [.ok] [.bits] [true, true]).mode = .std ∧
      (s0 [.ok] [.bits] [true, true]).writeAnswers = .ok :: [] ∧
      (s0 [.ok] [.bits] [true, true]).readAnswers = .bits :: [] ∧
      (s0 [.ok] [.bits] [true, true]).samples = true :: true :: []) ∧
    (Idle (fast [.ok, .ok] [.bits, .bits] [true, true, true, true]) ∧
      (fast [.ok, .ok] [.bits, .bits] [true, true, true, true]).mode = .od ∧
      (fast [.ok, .ok] [.bits, .bits] [true, true, true, true]).writeAnswers = .ok :: .ok :: [] ∧
      (fast [.ok, .ok] [.bits, .bits] [true, true, true, true]).readAnswers = .bits :: .bits :: [] ∧
      (fast [.ok, .ok] [.bits, .bits] [true, true, true, true]).samples = true :: true :: true :: true :: []) ∧
    (Idle (s0 [.ok, .ok, .ok, .ok] [.bits, .bits, .bits] [false, true, true, false, true, true]) ∧
      0 < quiet.params.romBits ∧
      (s0 [.ok, .ok, .ok, .ok] [.bits, .bits, .bits] [false, true, true, false, true, true]).writeAnswers =
        .ok :: .ok :: .ok :: .ok :: [] ∧
      (s0 [.ok, .ok, .ok, .ok] [.bits, .bits, .bits] [false, true, true, false, true, true]).readAnswers =
        .bits :: .bits :: .bits :: [] ∧
      (s0 [.ok, .ok, .ok, .ok] [.bits, .bits, .bits] [false, true, true, false, true, true]).samples =
        false :: true :: true :: false :: true :: true :: []) :=
  ⟨⟨(ready_session _ _ _ _ _).toIdle, rfl, rfl, rfl, rfl, rfl⟩, ⟨idle_fast _ _ _, rfl, rfl, rfl, rfl⟩,
    (ready_session _ _ _ _ _).toIdle, by decide, rfl, rfl, rfl⟩

/-- An unbounded session, and one whose batch holds the 32 elements of the search command and no more. -/
theorem witness_SearchReturnsOnlyValidCodes :
    fitsBatch quiet (quiet.buf.length + 32) ∧ fitsBatch (bounded 32 quiet) (quiet.buf.length + 32) := ⟨rfl, rfl⟩

/-- V-SRCH-9 and V-SRCH-10: the two codes of `twoDevices` part at level 8. -/
def beforeFork : List Bool := (codeBits [0x10#8, 0x02#8]).take 8

def afterFork : List Bool := (codeBits [0x10#8, 0x02#8, 0x00#8, 0x00#8, 0x00#8, 0x00#8, 0x00#8, 0x95#8]).drop 9

/-- V-SRCH-5: a code with a bad CRC-8. -/
def badCode : List Byte := [0x28#8, 0xFF#8, 0x4C#8, 0x2A#8, 0x61#8, 0x16#8, 0x03#8, 0x00#8]

/-- The first code of V-SRCH-3. -/
def firstCode : List Byte := [0x10#8, 0x02#8, 0x00#8, 0x00#8, 0x00#8, 0x00#8, 0x00#8, 0x95#8]

/-- A failing search of each kind: V-SRCH-8 (level 10), V-SRCH-5 (a bad CRC-8), V-SRCH-9 and V-SRCH-10 (the remembered
bits 3 and 8). -/
theorem witness_SearchAnswersItsErrors :
    (Idle quiet ∧ quiet.params.romBits = 64 ∧ fitsBatch quiet 32 ∧ fitsResults quiet 1) ∧
    (0 < (oneDevice.take 10).length ∧ (oneDevice.take 10).length < 64) ∧
    ((codeBits badCode).length = 64 ∧ spells badCode (codeBits badCode) ∧ crc8 badCode ≠ 0#8) ∧
    (beforeFork.length + 1 + afterFork.length = 64 ∧ spells firstCode (beforeFork ++ [false] ++ afterFork) ∧
      crc8 firstCode = 0#8 ∧
      (beforeFork ++ [true])[3]? = some false ∧ (beforeFork ++ [true])[8]? = some true) :=
  ⟨⟨(ready_session _ _ _ _ _).toIdle, rfl, rfl, rfl⟩, by decide,
    ⟨by decide +kernel, spells_of_all (by decide +kernel) (by decide +kernel), by decide +kernel⟩,
    by decide +kernel, spells_of_all (by decide +kernel) (by decide +kernel), by decide +kernel, by decide, by decide⟩

/-- V-SRCH-10: the poll at level 8 of the second pass contradicts the remembered bit. -/
theorem test_search_replay_error :
    answer (exec .search (s0 (List.replicate (6 + 3 * 64 + 3 * 8) .ok) (List.replicate (4 + 2 * 64 + 2 * 8) .bits)
      ([false, true] ++ forcedPolls beforeFork ++ [false, false, false, false] ++ forcedPolls afterFork ++
        [false, true] ++ forcedPolls (beforeFork.take 8) ++ [false, false, true, true]))) =
      some [⟨.comms, nums [8, 0, 1]⟩] := by decide +kernel

/-- A session between commands with an open batch, a pending read, a pullup pin and a read about to be issued. -/
def busy : State :=
  { openBatch (session (some 9#4) true [] [] []) with
    buf := readElems (session (some 9#4) true [] [] [])
    pend := [.bit 0]
    busPhase := .active
    crcAcc := 0xA2#16
    hostQueue := [.command 0x14000000#32]
    trace := [.setup, .txWrite [.gpio 1#16 0x200#16]]
    responses := [⟨.ok, []⟩, ⟨.ok, []⟩, ⟨.ok, [.token 0]⟩] }

theorem inv_busy : Inv busy where
  pullupApart := by decide
  batch := ⟨by decide, by decide, ⟨rfl, trivial⟩⟩
  batchFits := rfl
  gpio := ⟨by decide, by decide, by intro q h; cases h; decide, by intro q h _; cases h; decide, by decide +kernel⟩
  crcInWidth := by decide
  noDeviceNever := by decide

theorem witness_StepKeepsInvariants : Inv busy ∧ ∃ t, step busy = .next t := ⟨inv_busy, _, rfl⟩

theorem witness_StepKeepsTransportOrder : TraceInv busy ∧ ∃ t, step busy = .next t :=
  ⟨⟨by decide, trivial⟩, _, rfl⟩

theorem witness_CommandAnswersOnce :
    busy.hostQueue = .command 0x14000000#32 :: [] ∧ ∃ t, step busy = .next t := ⟨rfl, _, rfl⟩

theorem witness_DeadTransportIsSticky :
    (dead busy).hostQueue = .command 0x14000000#32 :: [] ∧ (dead busy).transportDead = true ∧
    ∃ t, step (dead busy) = .next t := ⟨rfl, rfl, _, rfl⟩

/-- One error of each kind that the clauses speak of: misuse, a timeout, a failed write, a nonzero residue. -/
theorem witness_StateAfterAnError :
    BatchInv (issued (.command 0x10000000#32) (readBatch [] [] [])) ∧
    view (fun t => t.responses.map Response.status)
      (step (issued (.command 0x10000000#32) (readBatch [] [] []))) = some [.protocol] ∧
    BatchInv (issued (.command 0x09000000#32) (readBatch [.ok] [.timeout] [])) ∧
    view (fun t => t.responses.map Response.status)
      (step (issued (.command 0x09000000#32) (readBatch [.ok] [.timeout] []))) = some [.timeout] ∧
    BatchInv (issued (.command 0x09000000#32) (readBatch [.usbErr] [] [])) ∧
    view (fun t => t.responses.map Response.status)
      (step (issued (.command 0x09000000#32) (readBatch [.usbErr] [] []))) = some [.usb] :=
  ⟨⟨by decide, by decide, ⟨rfl, trivial⟩⟩, by decide, ⟨by decide, by decide, ⟨rfl, trivial⟩⟩, by decide,
    ⟨by decide, by decide, ⟨rfl, trivial⟩⟩, by decide⟩

/-- The implicit batch of a command; a batch that is written; one that a dead transport loses. -/
theorem witness_BatchesCloseByBeingWritten :
    ((s0 [.ok] [] []).collecting = false ∧ (∃ t, exec (.wbit true) (s0 [.ok] [] []) = .next t) ∧
      Instr.wbit true ≠ .beginBatch) ∧
    (∃ t, exec .flush (writeBatch [.ok]) = .next t ∧ ¬(writeBatch [.ok]).buf <+: t.buf) ∧
    (∃ t, exec .flush (dead (writeBatch [])) = .next t ∧ ¬(dead (writeBatch [])).buf <+: t.buf) :=
  ⟨⟨rfl, ⟨_, rfl⟩, by decide⟩, ⟨_, rfl, by decide⟩, _, rfl, by decide⟩

theorem witness_OnlyModeAndFallbackWriteMode :
    (∃ t, exec (.mode .od) (session none true [] [] []) = .next t ∧ t.mode = .od) ∧
    (∃ t, exec .reset (fast [.ok, .ok] [.bits, .bits] [true, true, false, true]) = .next t ∧ t.mode = .std) :=
  ⟨⟨_, rfl, rfl⟩, _, rfl, rfl⟩

theorem witness_QuietCommandsFrame :
    (Instr.crcb 0x01#8 = .crcb 0x01#8 ∧ ∃ t, exec (.crcb 0x01#8) busy = .next t) ∧
    (Instr.nop ∈ [Instr.nop, .crcr, .crcc] ∧ ∃ t, exec .nop busy = .next t) :=
  ⟨⟨rfl, _, rfl⟩, by decide, _, rfl⟩

theorem witness_BusCommandsFrame :
    (Instr.pullup 0#24 = .pullup 0#24 ∧ ∃ t, exec (.pullup 0#24) pullupBatch = .next t) ∧
    (Instr.rbyte ∈ [Instr.beginBatch, .flush, .reset, .rbit, .rbyte, .search] ∧ ∃ t, exec .rbyte busy = .next t) :=
  ⟨⟨rfl, _, rfl⟩, by decide, _, rfl⟩

/-- A write and a read, in and out of a batch. -/
def shortList : List Instr := [.wbit true, .rbit]

theorem witness_BatchSizeInvariance :
    Ready (s0 [.ok, .ok, .ok] [.bits, .bits, .bits] [true, false]) ∧ (∀ i ∈ shortList, batchable i = true) ∧
    (∀ a ∈ (s0 [.ok, .ok, .ok] [.bits, .bits, .bits] [true, false]).writeAnswers, a = .ok) ∧
    shortList.length < (s0 [.ok, .ok, .ok] [.bits, .bits, .bits] [true, false]).writeAnswers.length ∧
    (∀ a ∈ (s0 [.ok, .ok, .ok] [.bits, .bits, .bits] [true, false]).readAnswers, a = .bits) ∧
    shortList.length < (s0 [.ok, .ok, .ok] [.bits, .bits, .bits] [true, false]).readAnswers.length ∧
    samplesTaken shortList ≤ (s0 [.ok, .ok, .ok] [.bits, .bits, .bits] [true, false]).samples.length ∧
    (∃ u, runCommands shortList (s0 [.ok, .ok, .ok] [.bits, .bits, .bits] [true, false]) = some u) ∧
    (∃ v, runCommands (.beginBatch :: shortList ++ [.flush])
      (s0 [.ok, .ok, .ok] [.bits, .bits, .bits] [true, false]) = some v) :=
  ⟨ready_session _ _ _ _ _, by decide, by decide, by decide, by decide, by decide, by decide, ⟨_, rfl⟩, _, rfl⟩

end Sys2Proof.Tests
end

section
/-! PROOF. One step: what it takes from the host queue, and that an issued command comes back from its own word
(00_scope.md R11, R13, 30_encoding.md R78). -/

namespace Sys2Proof

open Laws

/-! ## The fields of a word put together from an opcode and an operand (30_encoding.md R70-R76) -/

theorem opField_append (o : Byte) (u : BitVec 24) : opField (o ++ u) = o :=
  BitVec.extractLsb'_append_eq_left

@[simp] theorem opField_encode (i : Instr) : opField (encode i) = i.opcode := opField_append i.opcode i.operand

theorem uField_append (o : Byte) (u : BitVec 24) : uField (o ++ u) = u :=
  BitVec.extractLsb'_append_eq_right

theorem bField_append (o : Byte) (z : BitVec 16) (d : Byte) : bField (o ++ (z ++ d)) = d := by
  rw [bField, BitVec.extractLsb'_append_eq_of_add_le (by decide), BitVec.extractLsb'_append_eq_right]

theorem tField_append (o : Byte) (z : BitVec 20) (iv : BitVec 4) : tField (o ++ (z ++ iv)) = iv := by
  rw [tField, BitVec.extractLsb'_append_eq_of_add_le (by decide), BitVec.extractLsb'_append_eq_right]

theorem rField_append (o : Byte) (z : BitVec 21) (r : BitVec 3) : rField (o ++ (z ++ r)) = r := by
  rw [rField, BitVec.extractLsb'_append_eq_of_add_le (by decide), BitVec.extractLsb'_append_eq_right]

/-! ## The decoder reads back an encoded command -/

/-- A word that matches the row of its opcode decodes to what the row builds from it, where that is well-formed. -/
theorem decode_of_row {w : Word} {op : Byte} {fmt : Format} {build : Word → Instr} {i : Instr}
    (hrow : findRow (opField w) opcodeRows = some ⟨op, fmt, build⟩) (hmatch : w &&& fmt.mask = matchValue op)
    (hbuild : build w = i) (hwf : i.wellFormed = true) : decode w = .ok i := by
  simp [decode, hrow, hmatch, hbuild, hwf]

theorem encode_matches_row (i : Instr) : encode i &&& i.format.mask = matchValue i.opcode := by
  cases i with
  | nop => exact EncodeMatchesRow.nop
  | tq iv => exact EncodeMatchesRow.tq iv
  | tqn u => exact EncodeMatchesRow.tqn u
  | mode m => exact EncodeMatchesRow.mode m
  | beginBatch => exact EncodeMatchesRow.beginBatch
  | flush => exact EncodeMatchesRow.flush
  | reset => exact EncodeMatchesRow.reset
  | wbit b => exact EncodeMatchesRow.wbit b
  | rbit => exact EncodeMatchesRow.rbit
  | wbyte d => exact EncodeMatchesRow.wbyte d
  | rbyte => exact EncodeMatchesRow.rbyte
  | pullup u => exact EncodeMatchesRow.pullup u
  | crci w => exact EncodeMatchesRow.crci w
  | crcb d => exact EncodeMatchesRow.crcb d
  | crcr => exact EncodeMatchesRow.crcr
  | crcc => exact EncodeMatchesRow.crcc
  | search => exact EncodeMatchesRow.search
  | rdreg r => exact EncodeMatchesRow.rdreg r

/-- The opcode map (30_encoding.md R77) has a row for every command, which builds it from its own word. -/
theorem findRow_encode (i : Instr) :
    ∃ build, findRow (opField (encode i)) opcodeRows = some ⟨i.opcode, i.format, build⟩ ∧
      build (encode i) = i := by
  rw [opField_encode]
  cases i with
  | nop | beginBatch | flush | reset | rbit | rbyte | crcr | crcc | search => exact ⟨_, rfl, rfl⟩
  | tq iv => exact ⟨_, rfl, congrArg Instr.tq (tField_append _ _ iv)⟩
  | tqn u => exact ⟨_, rfl, congrArg Instr.tqn (uField_append _ u)⟩
  | mode m => cases m <;> exact ⟨_, rfl, rfl⟩
  | wbit b => cases b <;> exact ⟨_, rfl, rfl⟩
  | wbyte d => exact ⟨_, rfl, congrArg Instr.wbyte (bField_append _ _ d)⟩
  | pullup u => exact ⟨_, rfl, congrArg Instr.pullup (uField_append _ u)⟩
  | crci w => cases w <;> exact ⟨_, rfl, rfl⟩
  | crcb d => exact ⟨_, rfl, congrArg Instr.crcb (bField_append _ _ d)⟩
  | rdreg r => exact ⟨_, rfl, congrArg Instr.rdreg (rField_append _ _ r)⟩

/-- 30_encoding.md R78: the decoder gives back a well-formed command from its word. -/
theorem decode_encode {i : Instr} (hwf : i.wellFormed = true) : decode (encode i) = .ok i := by
  obtain ⟨build, hrow, hbuild⟩ := findRow_encode i
  exact decode_of_row hrow (encode_matches_row i) hbuild hwf

end Sys2Proof

namespace Sys2Proof.Machine

/-! ## One step by what the host issued next -/

theorem step_of_idle {s : State} (h : s.hostQueue = []) : step s = .next s := by
  simp [step, h]

theorem step_of_issued {s : State} {x : HostInput} {rest : List HostInput} (h : s.hostQueue = x :: rest) :
    step s = runInput x { s with hostQueue := rest } := by
  simp [step, h]

theorem runWord_of_decode {w : Word} {i : Instr} (h : decode w = .ok i) (s : State) : runWord w s = exec i s := by
  simp [runWord, h]

theorem step_of_command {s : State} {w : Word} {i : Instr} {rest : List HostInput}
    (hq : s.hostQueue = .command w :: rest) (hd : decode w = .ok i) :
    step s = exec i { s with hostQueue := rest } :=
  (step_of_issued hq).trans (runWord_of_decode hd _)

theorem step_of_init {s : State} {p : Pin} {q : Option Pin} {od : Bool} {rest : List HostInput}
    (hq : s.hostQueue = .init p q od :: rest) : step s = initEngine p q od { s with hostQueue := rest } :=
  step_of_issued hq

theorem withFetchWord_hostQueue (s : State) (n : Nat) (w : Word) :
    (s.withFetchWord n w.toNat).hostQueue = .command w :: s.hostQueue := by
  simp [State.withFetchWord, issueNext]

/-- Settles O6: each clause is the step lemma of what stands first in the queue; an issued command comes back from its
word by the decoder's round trip. -/
theorem stepRunsDecodedCommand : Obligations.StepRunsDecodedCommand := by
  intro s rest
  refine ⟨fun w i hq hd => step_of_command hq hd, fun p q od hq => step_of_init hq, step_of_idle, fun i hwf => ?_⟩
  exact step_of_command (withFetchWord_hostQueue s 32 (encode i)) (decode_encode hwf)

end Sys2Proof.Machine
end

section
/-! PROOF. What the commands do to the line and to the batch, said once for each shared operation and each command. -/

namespace Sys2Proof.Machine

/-! ## Where a pseudocode ends -/

@[simp] theorem protocolViolation_status (reason : Nat) : (protocolViolation reason).status = .protocol := rfl

@[simp] theorem usbError_status (cause : Nat) : (usbError cause).status = .usb := rfl

@[simp] theorem timeoutError_status (n : Nat) : (timeoutError n).status = .timeout := rfl

@[simp] theorem commsError_status (n : Nat) (a c : Bool) : (commsError n a c).status = .comms := rfl

@[simp] theorem illegalCommand_status (w : Word) : (illegalCommand w).status = .illegal := rfl

/-- The pseudocode ends in a state of `I`, also where it raises an error, and that error is not NoDeviceError
(60_exceptions.md R224). A stop ends no command. -/
def Res.Ends {α : Type} (I : State → Prop) : Res α → Prop
  | .ok _ s => I s
  | .raise e s => I s ∧ e.status ≠ .noDevice
  | .stop _ _ => True

theorem Res.Ends.mono {α : Type} {I J : State → Prop} {r : Res α} (h : r.Ends I) (hIJ : ∀ t, I t → J t) : r.Ends J := by
  cases r with
  | ok a t => exact hIJ t h
  | raise e t => exact ⟨hIJ t h.1, h.2⟩
  | stop r t => trivial

theorem Res.Ends.and {α : Type} {I J : State → Prop} {r : Res α} (h : r.Ends I) (k : r.Ends J) :
    r.Ends fun t => I t ∧ J t := by
  cases r with
  | ok a t => exact ⟨h, k⟩
  | raise e t => exact ⟨⟨h.1, k.1⟩, h.2⟩
  | stop r t => trivial

theorem Res.Ends.andThen {α β : Type} {I : State → Prop} {r : Res α} {k : α → State → Res β} (h : r.Ends I)
    (hk : ∀ a t, I t → (k a t).Ends I) : (r.andThen k).Ends I := by
  cases r with
  | ok a t => exact hk a t h
  | raise e t => exact h
  | stop r t => trivial

theorem Res.Ends.ifRoom {α : Type} {I : State → Prop} {s : State} {k : State → Res α}
    (hk : fitsBatch s s.buf.length → (k s).Ends I) : (Machine.ifRoom s k).Ends I := by
  by_cases h : fitsBatch s s.buf.length
  · rw [ifRoom_fits k h]
    exact hk h
  · rw [ifRoom_full k h]
    trivial

/-- A command that answers a next state appended a response, never NoDeviceError, to the state where its pseudocode
ended. -/
theorem Res.Ends.finish {I : State → Prop} {r : Res (List Value)} {t : State} (h : r.Ends I)
    (hf : Machine.finish r = .next t) : ∃ u status values, t = respond status values u ∧ I u ∧ status ≠ .noDevice := by
  cases r with
  | ok vs u => exact ⟨u, .ok, vs, (Host.Outcome.next.inj hf).symm, h, by decide⟩
  | raise e u => exact ⟨u, e.status, e.info, (Host.Outcome.next.inj hf).symm, h⟩
  | stop r u => cases hf

/-! ## `Flush()` and the transport's flag -/

theorem txWrite_transportDead {elems : List Elem} {s t : State} {a : WriteAnswer} (h : txWrite elems s = (a, t)) :
    t.transportDead = s.transportDead := by
  obtain ⟨_, _, hw⟩ := txWrite_cases elems s
  rw [h] at hw
  exact (congrArg State.transportDead hw :)

theorem txRead_transportDead {n : Nat} {s t : State} {o : ReadOutcome} (h : txRead n s = (o, t)) :
    t.transportDead = s.transportDead := by
  obtain ⟨_, _, _, hr⟩ := txRead_cases n s
  rw [h] at hr
  exact (congrArg State.transportDead hr :)

/-- How `Flush()` ends: on success and on a timeout, which only a read can meet, the transport's flag is as before, and
any other failure sets it (41_batch.md R123). -/
theorem flush_ends (s : State) :
    (∃ vals t, flush s = .ok vals t ∧ t.transportDead = s.transportDead) ∨
    (∃ cause t, flush s = .raise (usbError cause) t ∧ t.transportDead = true) ∨
    (nsamp s.buf ≠ 0 ∧ ∃ n t, flush s = .raise (timeoutError n) t ∧ t.transportDead = s.transportDead) := by
  have dead_write {a t} (h : txWrite s.buf (clearBatch s) = (a, t)) : t.transportDead = s.transportDead :=
    (txWrite_transportDead h).trans (clearBatch_transportDead s)
  rcases flush_cases s with ⟨_, h⟩ | ⟨_, t, _, h⟩ | ⟨_, _, t, ht, h⟩ | ⟨_, _, t, u, _, _, h⟩ |
    ⟨_, hn, t, u, ht, hu, h⟩ | ⟨_, _, t, u, bs, ht, hu, h⟩
  · exact .inl ⟨_, _, h, rfl⟩
  · exact .inr (.inl ⟨_, _, h, rfl⟩)
  · exact .inl ⟨_, _, h, dead_write ht⟩
  · exact .inr (.inl ⟨_, _, h, rfl⟩)
  · exact .inr (.inr ⟨hn, _, _, h, (txRead_transportDead hu).trans (dead_write ht)⟩)
  · exact .inl ⟨_, _, h, (txRead_transportDead hu).trans (dead_write ht)⟩

/-! ## What a command may do to the line -/

/-- What the command `i` may do to the line and to the mode between `s` and `t`: besides the data pin it writes no pin
but the level of the pullup pin, and that only if it is PULLUP (10_state.md R30); the data pin is not left driven; the mode
changes only by the fallback of RESET and SEARCH (10_state.md R25); and a dead transport stays dead. -/
structure LineFrame (i : Instr) (s t : State) : Prop extends KeepsSession s t where
  dir : ∀ p : Pin, p ≠ s.cfgDataPin → t.dir.getLsbD p.toNat = s.dir.getLsbD p.toNat
  level : ∀ p : Pin, p ≠ s.cfgDataPin → (s.cfgPullup = some p → ∀ u, i ≠ .pullup u) →
    t.level.getLsbD p.toNat = s.level.getLsbD p.toNat
  dataDir : s.dir.getLsbD s.cfgDataPin.toNat = false → t.dir.getLsbD s.cfgDataPin.toNat = false
  dataLevel : s.cfgPullup ≠ some s.cfgDataPin → s.level.getLsbD s.cfgDataPin.toNat = true →
    t.level.getLsbD s.cfgDataPin.toNat = true
  mode : t.mode = s.mode ∨ ((i = .reset ∨ i = .search) ∧ s.mode = .od ∧ t.mode = .std)
  alive : t.transportDead = false → s.transportDead = false

theorem LineFrame.trans {i : Instr} {s t u : State} (h : LineFrame i s t) (k : LineFrame i t u) : LineFrame i s u where
  toKeepsSession := h.toKeepsSession.trans k.toKeepsSession
  dir p hp := (k.dir p (h.cfgDataPin ▸ hp)).trans (h.dir p hp)
  level p hp hi := (k.level p (h.cfgDataPin ▸ hp) (h.cfgPullup ▸ hi)).trans (h.level p hp hi)
  dataDir hs := h.cfgDataPin ▸ k.dataDir (h.cfgDataPin.symm ▸ h.dataDir hs)
  dataLevel ha hs := h.cfgDataPin ▸
    k.dataLevel (h.cfgPullup.symm ▸ h.cfgDataPin.symm ▸ ha) (h.cfgDataPin.symm ▸ h.dataLevel ha hs)
  mode := by
    rcases h.mode with hm | ⟨hi, hs, ht⟩ <;> rcases k.mode with km | ⟨ki, kt, ku⟩
    · exact .inl (km.trans hm)
    · exact .inr ⟨ki, hm ▸ kt, ku⟩
    · exact .inr ⟨hi, hs, km.trans ht⟩
    · exact .inr ⟨hi, hs, ku⟩
  alive hu := h.alive (k.alive hu)

/-- An operation that writes no pin. -/
theorem LineFrame.of_same {i : Instr} {s t : State} (hk : KeepsSession s t) (hl : t.level = s.level) (hd : t.dir = s.dir)
    (hm : t.mode = s.mode ∨ ((i = .reset ∨ i = .search) ∧ s.mode = .od ∧ t.mode = .std))
    (ha : t.transportDead = false → s.transportDead = false) : LineFrame i s t where
  toKeepsSession := hk
  dir _ _ := by rw [hd]
  level _ _ _ := by rw [hl]
  dataDir hs := hd.symm ▸ hs
  dataLevel _ hs := hl.symm ▸ hs
  mode := hm
  alive := ha

theorem LineFrame.refl (i : Instr) (s : State) : LineFrame i s s := .of_same (.refl s) rfl rfl (.inl rfl) id

/-- Two different pins have different bits. -/
theorem pin_toNat_ne {p q : Pin} (h : p ≠ q) : p.toNat ≠ q.toNat := fun e => h (BitVec.eq_of_toNat_eq e)

/-- A slot drives the data pin low and releases it. -/
theorem slotDone_frame (i : Instr) (s : State) (es : List Elem) : LineFrame i s (slotDone s es) where
  toKeepsSession := slotDone_keeps s es
  dir p hp := by simp [slotDone, getLsbD_setPin, pin_toNat_ne hp]
  level p hp _ := by simp [slotDone, getLsbD_setPin, pin_toNat_ne hp]
  dataDir _ := by simp [slotDone, getLsbD_setPin]
  dataLevel _ _ := by simp [slotDone, getLsbD_setPin]
  mode := .inl rfl
  alive := id

/-- PULLUP sets the level of the pullup pin. -/
theorem setPullup_frame {u : BitVec 24} {q : Pin} {s : State} (x : Bool) (hq : s.cfgPullup = some q) :
    LineFrame (.pullup u) s (setPullup q x s) where
  toKeepsSession := ⟨rfl, rfl, rfl, rfl, rfl, rfl, rfl, rfl, rfl, List.prefix_refl _⟩
  dir p hp := rfl
  level p hp hi := by
    have hpq : p ≠ q := fun e => hi (e ▸ hq) u rfl
    simp [getLsbD_setPin, pin_toNat_ne hpq]
  dataDir := id
  dataLevel ha hs := by
    have hne : s.cfgDataPin ≠ q := fun e => ha (e ▸ hq)
    simpa [getLsbD_setPin, pin_toNat_ne hne] using hs
  mode := .inl rfl
  alive := id

/-! ## What a command leaves of the batch -/

/-- The batch between commands: the invariants of 10_state.md R29, and the bound of 93_implementation_defined.md I22. -/
structure BatchOk (s : State) : Prop where
  inv : BatchInv s
  fits : fitsBatch s s.buf.length

theorem batchOk_of_empty {s : State} (hb : s.buf = []) (hp : s.pend = []) : BatchOk s where
  inv := ⟨fun _ => ⟨hb, hp⟩, by simp [hb, hp, nsamp, pendSamples], by simp [hp, pendInOrder]⟩
  fits := by
    rw [hb]
    cases hc : s.params.batchCapacity <;> simp [fitsBatch, hc]

theorem pendSamples_append (xs ys : List Pending) : pendSamples (xs ++ ys) = pendSamples xs + pendSamples ys := by
  induction xs with
  | nil => simp [pendSamples]
  | cons p ps ih => simp [pendSamples, ih, Nat.add_assoc]

theorem pendInOrder_snoc {n : Nat} {ps : List Pending} {p : Pending} (h : pendInOrder n ps)
    (hp : pendFirst p = n + pendSamples ps) : pendInOrder n (ps ++ [p]) := by
  induction ps generalizing n with
  | nil => exact ⟨hp, trivial⟩
  | cons q ps ih => exact ⟨h.1, ih h.2 (by rw [hp, pendSamples]; omega)⟩

/-- Elements without a sample leave an open batch in order. -/
theorem BatchInv.append_write {s t : State} {es : List Elem} (h : BatchInv s) (hc : t.collecting = true)
    (hb : t.buf = s.buf ++ es) (hn : nsamp es = 0) (hp : t.pend = s.pend) : BatchInv t where
  idleEmpty ht := absurd (hc.symm.trans ht) (by decide)
  samplesCounted := by rw [hb, hp, nsamp_append, hn, ← h.samplesCounted, Nat.add_zero]
  inOrder := hp ▸ h.inOrder

/-- So do the samples of one read that come with their own pending entry. -/
theorem BatchInv.append_read {s t : State} {es : List Elem} {p : Pending} (h : BatchInv s) (hc : t.collecting = true)
    (hb : t.buf = s.buf ++ es) (hp : t.pend = s.pend ++ [p]) (hfirst : pendFirst p = nsamp s.buf)
    (hsize : nsamp es = pendSize p) : BatchInv t where
  idleEmpty ht := absurd (hc.symm.trans ht) (by decide)
  samplesCounted := by simp [hb, hp, pendSamples_append, pendSamples, hsize, h.samplesCounted]
  inOrder := hp ▸ pendInOrder_snoc h.inOrder (by rw [hfirst, h.samplesCounted, Nat.zero_add])

theorem nsamp_writeByteElems (s : State) (d : Byte) : nsamp (writeByteElems s d) = 0 := by
  simp [writeByteElems, List.range_succ, nsamp_writeElems]

theorem nsamp_readByteElems (s : State) : nsamp (readByteElems s) = 16 := rfl

/-! ## What a command does to the line and the batch -/

/-- What the command `i` does from `s` to `t`, where it may end: to the line what it may, and the batch stays in order. -/
structure BusRun (i : Instr) (s t : State) : Prop extends LineFrame i s t where
  batch : BatchOk s → BatchOk t

theorem BusRun.refl (i : Instr) (s : State) : BusRun i s s := ⟨.refl i s, id⟩

theorem BusRun.trans {i : Instr} {s t u : State} (h : BusRun i s t) (k : BusRun i t u) : BusRun i s u :=
  ⟨h.toLineFrame.trans k.toLineFrame, k.batch ∘ h.batch⟩

/-- A chain of operations does what a command may if each of them does. -/
theorem BusRun.andThen {α β : Type} {i : Instr} {s : State} {r : Res α} {k : α → State → Res β}
    (h : r.Ends (BusRun i s)) (hk : ∀ a t, (k a t).Ends (BusRun i t)) : (r.andThen k).Ends (BusRun i s) :=
  Res.Ends.andThen h fun a t ht => (hk a t).mono fun _ hu => ht.trans hu

/-- `Flush()` writes no pin and leaves the batch empty, and its errors are UsbError and TimeoutError. -/
theorem flush_run {i : Instr} {s t : State} (h : LineFrame i s t) : (flush t).Ends (BusRun i s) := by
  obtain ⟨hl, hd, -, hm⟩ := flush_line t
  obtain ⟨-, hb, hp⟩ := flush_idle t
  have frame (ha : (flush t).state.transportDead = false → t.transportDead = false) : BusRun i s (flush t).state :=
    ⟨h.trans (.of_same (flush_keeps t) hl hd (.inl hm) ha), fun _ => batchOk_of_empty hb hp⟩
  rcases flush_ends t with ⟨vals, u, hf, hu⟩ | ⟨cause, u, hf, hu⟩ | ⟨-, n, u, hf, hu⟩ <;> rw [hf] at frame ⊢
  · exact frame fun ha => hu ▸ ha
  · exact ⟨frame fun ha => absurd (hu.symm.trans ha) (by decide), by simp⟩
  · exact ⟨frame fun ha => hu ▸ ha, by simp⟩

theorem ifRoom_flush_run {i : Instr} {s t : State} (h : LineFrame i s t) : (ifRoom t flush).Ends (BusRun i s) :=
  .ifRoom fun _ => flush_run h

/-- Writing the batch's own fields writes no pin. -/
theorem batchFields_frame (i : Instr) (s : State) (collecting : Bool) (buf : List Elem) (pend : List Pending) :
    LineFrame i s { s with collecting := collecting, buf := buf, pend := pend } :=
  .of_same ⟨rfl, rfl, rfl, rfl, rfl, rfl, rfl, rfl, rfl, List.prefix_refl _⟩ rfl rfl (.inl rfl) id

/-- Opening a batch, implicit or explicit, writes no pin. -/
theorem collecting_frame (i : Instr) (s : State) : LineFrame i s { s with collecting := true } :=
  batchFields_frame i s true s.buf s.pend

/-! ### The bodies of the bit and byte commands -/

/-- What the body of a bit or byte command does: slots on the line, and an open batch stays in order. -/
structure SlotBody (body : State → List Nat × State) : Prop where
  frame : ∀ i s, LineFrame i s (body s).2
  batch : ∀ s, s.collecting = true → BatchInv s → BatchInv (body s).2

/-- Setting the pending reads and the bus phase writes no pin. -/
theorem slots_frame (i : Instr) (s : State) (es : List Elem) (ps : List Pending) :
    LineFrame i s { slotDone s es with pend := ps, busPhase := .active } :=
  (slotDone_frame i s es).trans
    (.of_same ⟨rfl, rfl, rfl, rfl, rfl, rfl, rfl, rfl, rfl, List.prefix_refl _⟩ rfl rfl (.inl rfl) id)

theorem wbitBody_slots (b : Bool) : SlotBody (wbitBody b) where
  frame i s := by rw [wbitBody_eq]; exact slots_frame i s _ _
  batch s hc h := by rw [wbitBody_eq]; exact h.append_write hc rfl (nsamp_writeElems s b) rfl

theorem wbyteBody_slots (d : Byte) : SlotBody (wbyteBody d) where
  frame i s := by rw [wbyteBody_eq]; exact slots_frame i s _ _
  batch s hc h := by rw [wbyteBody_eq]; exact h.append_write hc rfl (nsamp_writeByteElems s d) rfl

theorem rbitBody_slots : SlotBody rbitBody where
  frame i s := by rw [rbitBody_eq]; exact slots_frame i s _ _
  batch s hc h := by rw [rbitBody_eq]; exact h.append_read hc rfl rfl rfl (nsamp_readElems s)

theorem rbyteBody_slots : SlotBody rbyteBody where
  frame i s := by rw [rbyteBody_eq]; exact slots_frame i s _ _
  batch s hc h := by rw [rbyteBody_eq]; exact h.append_read hc rfl rfl rfl (nsamp_readByteElems s)

theorem implicitBatch_run {body : State → List Nat × State} (hb : SlotBody body) (i : Instr) (s : State) :
    (implicitBatch body s).Ends (BusRun i s) := by
  unfold implicitBatch
  split
  · exact ⟨.refl i s, by simp⟩
  · exact ifRoom_flush_run ((collecting_frame i s).trans (hb.frame i _))

theorem withBatch_run {body : State → List Nat × State} (hb : SlotBody body) (i : Instr) (s : State) :
    (withBatch body s).Ends (BusRun i s) := by
  unfold withBatch
  split
  · next hc => exact .ifRoom fun hfits => ⟨hb.frame i s, fun h => ⟨hb.batch s hc h.inv, hfits⟩⟩
  · exact BusRun.andThen (implicitBatch_run hb i s) fun _ t => .refl i t

theorem bitCommand_run {body : State → List Nat × State} (hb : SlotBody body) (i : Instr) (s : State) :
    (bitCommand body s).Ends (BusRun i s) := by
  unfold bitCommand
  split
  · trivial
  · exact withBatch_run hb i s

/-! ### BEGIN and FLUSH -/

theorem beginBatch_run (s : State) :
    Res.Ends (BusRun .beginBatch s) (if s.collecting then .raise (protocolViolation 1) s
      else .ok ([] : List Value) { s with collecting := true }) := by
  split
  · exact ⟨.refl _ s, by simp⟩
  · next hc =>
    refine ⟨collecting_frame _ s, fun h => ?_⟩
    obtain ⟨hb, hp⟩ := h.inv.idleEmpty (by simpa using hc)
    exact batchOk_of_empty hb hp

theorem flushCommand_run (s : State) : (flushCommand s).Ends (BusRun .flush s) := by
  unfold flushCommand
  split
  · exact ⟨.refl _ s, by simp⟩
  · split
    · exact ⟨⟨batchFields_frame _ s false [] [], fun _ => batchOk_of_empty rfl rfl⟩, by simp⟩
    · exact BusRun.andThen (flush_run (.refl _ s)) fun _ t => .refl _ t

/-! ### RESET and SEARCH -/

/-- A flag of the bus writes no pin and leaves the batch. -/
theorem busFlags_run (i : Instr) (s : State) (phase : BusPhase) (suspect : Bool) :
    BusRun i s { s with busPhase := phase, busSuspect := suspect } :=
  ⟨.of_same ⟨rfl, rfl, rfl, rfl, rfl, rfl, rfl, rfl, rfl, List.prefix_refl _⟩ rfl rfl (.inl rfl) id,
    fun h => ⟨⟨h.inv.idleEmpty, h.inv.samplesCounted, h.inv.inOrder⟩, h.fits⟩⟩

theorem setPresence_run (i : Instr) (p : Bool) (s : State) : BusRun i s (setPresence p s) :=
  busFlags_run i s _ s.busSuspect

theorem resetOnce_run (i : Instr) (s : State) : (resetOnce s).Ends (BusRun i s) := by
  have slot : LineFrame i s (resetSlot (pendRead .rst { s with collecting := true }).2) := by
    rw [resetSlot_eq]
    exact (batchFields_frame i s true s.buf (s.pend ++ [.rst (nsamp s.buf)])).trans (slotDone_frame i _ _)
  exact BusRun.andThen (ifRoom_flush_run slot) fun _ t => busFlags_run i t t.busPhase false

/-- The fallback from overdrive to standard speed (42_bitbyte.md R150). -/
theorem fallback_run {i : Instr} (hi : i = .reset ∨ i = .search) {s : State} (hm : s.mode = .od) :
    BusRun i s { s with mode := .std } :=
  ⟨.of_same ⟨rfl, rfl, rfl, rfl, rfl, rfl, rfl, rfl, rfl, List.prefix_refl _⟩ rfl rfl (.inr ⟨hi, hm, rfl⟩) id,
    fun h => ⟨⟨h.inv.idleEmpty, h.inv.samplesCounted, h.inv.inOrder⟩, h.fits⟩⟩

theorem resetBody_run {i : Instr} (hi : i = .reset ∨ i = .search) (s : State) : (resetBody s).Ends (BusRun i s) := by
  refine BusRun.andThen (resetOnce_run i s) fun p t => ?_
  split
  · next hp =>
    have retry := (resetOnce_run i { t with mode := .std }).mono fun _ => (fallback_run hi hp.2).trans
    exact BusRun.andThen retry fun p u => setPresence_run i p u
  · exact setPresence_run i p t

theorem resetCommand_run (s : State) : (resetCommand s).Ends (BusRun .reset s) := by
  unfold resetCommand
  split
  · exact ⟨.refl _ s, by simp⟩
  · split
    · exact ⟨.refl _ s, by simp⟩
    · exact BusRun.andThen (resetBody_run (.inl rfl) s) fun _ t => .refl _ t

theorem pollBit_run (i : Instr) (s : State) : (pollBit s).Ends (BusRun i s) :=
  BusRun.andThen (implicitBatch_run rbitBody_slots i s) fun _ t => .refl i t

theorem searchLevels_run (i : Instr) (P : List Bool) (n : Nat) (cur : List Bool) (stack : List (List Bool)) (s : State) :
    (searchLevels P n cur stack s).Ends (BusRun i s) := by
  induction n generalizing cur stack s with
  | zero => exact BusRun.refl i s
  | succ n ih =>
    refine BusRun.andThen (pollBit_run i s) fun a t => BusRun.andThen (pollBit_run i t) fun c u => ?_
    split
    · exact ⟨.refl i u, by simp⟩
    · exact BusRun.refl i u
    · next b _ => exact BusRun.andThen (implicitBatch_run (wbitBody_slots b) i u) fun _ v => ih _ _ v
    · exact BusRun.andThen (implicitBatch_run (wbitBody_slots false) i u) fun _ v => ih _ _ v

theorem checkCode_run (i : Instr) (code : List Byte) (stack : List (List Bool)) (s : State) :
    (checkCode code stack s).Ends (BusRun i s) := by
  unfold checkCode
  split
  · exact ⟨.refl i s, by simp⟩
  · exact BusRun.refl i s

theorem searchPass_run (P : List Bool) (stack : List (List Bool)) (s : State) :
    (searchPass P stack s).Ends (BusRun .search s) := by
  refine BusRun.andThen (resetBody_run (.inr rfl) s) fun p t => ?_
  split
  · exact BusRun.refl _ t
  · refine BusRun.andThen (implicitBatch_run (wbyteBody_slots _) _ t) fun _ u =>
      BusRun.andThen (searchLevels_run _ P _ [] stack u) fun out v => ?_
    split
    · exact BusRun.refl _ v
    · exact checkCode_run _ _ _ v

theorem searchLoop_run (fuel : Nat) (stack : List (List Bool)) (results : List (List Byte)) (s : State) :
    (searchLoop fuel stack results s).Ends (BusRun .search s) := by
  induction fuel generalizing stack results s with
  | zero => exact BusRun.refl _ s
  | succ fuel ih =>
    cases stack with
    | nil => exact BusRun.refl _ s
    | cons P stack =>
      refine BusRun.andThen (searchPass_run P stack s) fun out t => ?_
      split
      · exact ih _ _ t
      · split
        · trivial
        · exact ih _ _ t

theorem searchCommand_run (s : State) : (searchCommand s).Ends (BusRun .search s) := by
  unfold searchCommand
  split
  · exact ⟨.refl _ s, by simp⟩
  · split
    · exact ⟨.refl _ s, by simp⟩
    · exact BusRun.andThen (searchLoop_run _ _ _ s) fun _ t => .refl _ t

/-! ### PULLUP -/

theorem hostSleep_run (i : Instr) (us : Nat) (s : State) : BusRun i s (hostSleep us s) :=
  ⟨.of_same (record_keeps _ s) rfl rfl (.inl rfl) id,
    fun h => ⟨⟨h.inv.idleEmpty, h.inv.samplesCounted, h.inv.inOrder⟩, h.fits⟩⟩

theorem pullupWait_run (u : BitVec 24) (us : Nat) (s : State) : (pullupWait us s).Ends (BusRun (.pullup u) s) := by
  unfold pullupWait
  split
  · next q hq =>
    refine Res.Ends.andThen (ifRoom_flush_run (setPullup_frame true hq)) fun _ t ht => ?_
    have wake : LineFrame (.pullup u) t { hostSleep us t with collecting := true } :=
      (hostSleep_run _ us t).toLineFrame.trans (collecting_frame _ _)
    have off := wake.trans (setPullup_frame false (ht.cfgPullup.trans hq))
    exact (ifRoom_flush_run off).mono fun _ => ht.trans
  · exact BusRun.andThen (flush_run (.refl _ s)) fun _ t => hostSleep_run _ us t

theorem pullupRead_run (i : Instr) (s : State) : (pullupRead s).Ends (BusRun i s) :=
  BusRun.andThen (ifRoom_flush_run ((collecting_frame i s).trans (rbyteBody_slots.frame i _))) fun _ t => .refl i t

theorem pullupCommand_run (u : BitVec 24) (us : Nat) (s : State) :
    (pullupCommand us s).Ends (BusRun (.pullup u) s) := by
  unfold pullupCommand
  split
  · exact ⟨.refl _ s, by simp⟩
  · split
    · exact ⟨.refl _ s, by simp⟩
    · next hp =>
      split
      · exact ⟨⟨batchFields_frame _ s false [] s.pend, fun _ => batchOk_of_empty rfl (not_not.mp hp)⟩, by simp⟩
      · split
        · trivial
        · exact BusRun.andThen (pullupWait_run u us s) fun _ t => pullupRead_run _ t

/-- What each command of the batch or of the bus does. -/
theorem busCommand_run {i : Instr} {c : State → Res (List Value)} (hc : busCommand i = some c) (s : State) :
    (c s).Ends (BusRun i s) := by
  cases i <;> cases hc
  case beginBatch => exact beginBatch_run s
  case flush => exact flushCommand_run s
  case reset => exact resetCommand_run s
  case wbit b => exact bitCommand_run (wbitBody_slots b) _ s
  case rbit => exact bitCommand_run rbitBody_slots _ s
  case wbyte d => exact bitCommand_run (wbyteBody_slots d) _ s
  case rbyte => exact bitCommand_run rbyteBody_slots _ s
  case pullup u => exact pullupCommand_run u _ s
  case search => exact searchCommand_run s

/-- A command of the batch or of the bus that answers a next state. -/
theorem exec_busCommand_next {i : Instr} {c : State → Res (List Value)} {s t : State} (hc : busCommand i = some c)
    (h : exec i s = .next t) : ∃ u status values, t = respond status values u ∧ BusRun i s u ∧ status ≠ .noDevice :=
  (busCommand_run hc s).finish (exec_busCommand hc s ▸ h)

end Sys2Proof.Machine
end

section
/-! PROOF. The state's invariants, the timing mode and the frame of the bus commands (10_state.md). -/

namespace Sys2Proof.Machine

/-! ## The commands that touch no transport and no batch -/

/-- What a command other than those of the batch and of the bus does before it answers: nothing, or it is MODE, CRCI or
CRCB and writes its own fields (40_timing.md R104, 43_crc.md R172, R174). -/
inductive QuietRun (s : State) : Instr → State → Prop
  | same (i : Instr) : QuietRun s i s
  | mode (m : Mode) : QuietRun s (.mode m) { s with mode := m }
  | crci (w : CrcWidth) : QuietRun s (.crci w) { s with crcWidth := w, crcAcc := 0#16 }
  | crcb (d : Byte) : QuietRun s (.crcb d) { s with crcAcc := crcNext s.crcWidth s.crcAcc d }

theorem execTq_next {iv : BitVec 4} {s t : State} (h : execTq iv s = .next t) :
    ∃ status values, t = respond status values s ∧ status ≠ .noDevice := by
  unfold execTq at h
  split at h
  · exact ⟨_, _, (Host.Outcome.next.inj h).symm, by simp⟩
  · split at h
    · cases h
    · exact ⟨_, _, (Host.Outcome.next.inj h).symm, by simp⟩

theorem execRdreg_next {r : BitVec 3} {s t : State} (h : execRdreg r s = .next t) :
    ∃ status values, t = respond status values s ∧ status ≠ .noDevice := by
  unfold execRdreg at h
  split at h <;> exact ⟨_, _, (Host.Outcome.next.inj h).symm, by simp⟩

/-- A command other than those of the batch and of the bus that answers a next state. -/
theorem exec_quiet_next {i : Instr} {s t : State} (hq : busCommand i = none) (h : exec i s = .next t) :
    ∃ u status values, t = respond status values u ∧ QuietRun s i u ∧ status ≠ .noDevice := by
  cases i <;> cases hq
  case nop | tqn | crcr => exact ⟨s, .ok, _, (Host.Outcome.next.inj h).symm, .same _, by decide⟩
  case crci w => exact ⟨_, .ok, _, (Host.Outcome.next.inj h).symm, .crci w, by decide⟩
  case crcb d => exact ⟨_, .ok, _, (Host.Outcome.next.inj h).symm, .crcb d, by decide⟩
  case tq iv =>
    obtain ⟨status, values, ht, hs⟩ := execTq_next h
    exact ⟨s, status, values, ht, .same _, hs⟩
  case rdreg r =>
    obtain ⟨status, values, ht, hs⟩ := execRdreg_next h
    exact ⟨s, status, values, ht, .same _, hs⟩
  case mode m =>
    refine Res.Ends.finish (I := QuietRun s (.mode m)) ?_ h
    split
    · exact ⟨.same _, by simp⟩
    · exact QuietRun.mode m
  case crcc =>
    refine Res.Ends.finish (I := QuietRun s .crcc) ?_ h
    split
    · exact ⟨.same _, by simp⟩
    · exact QuietRun.same _

/-! ## The timing mode -/

theorem QuietRun.mode_eq {s u : State} {i : Instr} (h : QuietRun s i u) : u.mode = s.mode ∨ i = .mode u.mode := by
  cases h with
  | mode m => exact .inr rfl
  | same | crci | crcb => exact .inl rfl

/-- Settles O56: a quiet command writes the mode only as MODE, and a command of the bus only by the fallback of RESET and
SEARCH. -/
theorem onlyModeAndFallbackWriteMode : Obligations.OnlyModeAndFallbackWriteMode := by
  intro s t i h
  cases hc : busCommand i with
  | none =>
    obtain ⟨u, status, values, rfl, hu, -⟩ := exec_quiet_next hc h
    exact hu.mode_eq.imp_right .inl
  | some c =>
    obtain ⟨u, status, values, rfl, hu, -⟩ := exec_busCommand_next hc h
    exact hu.mode.imp_right .inr

/-! ## The frame of the bus commands -/

/-- Settles O58: what a command of the bus may do to the line says which pins it leaves, and that it keeps the session
says the rest. -/
theorem busCommandsFrame : Obligations.BusCommandsFrame := by
  intro s t i hi h
  have bus : ∃ c, busCommand i = some c := by
    rcases hi with hi | ⟨b, rfl⟩ | ⟨d, rfl⟩ | ⟨u, rfl⟩
    · simp only [List.mem_cons, List.not_mem_nil, or_false] at hi
      rcases hi with rfl | rfl | rfl | rfl | rfl | rfl <;> exact ⟨_, rfl⟩
    all_goals exact ⟨_, rfl⟩
  obtain ⟨c, hc⟩ := bus
  obtain ⟨u, status, values, rfl, hu, -⟩ := exec_busCommand_next hc h
  exact ⟨hu.crcAcc, hu.crcWidth, hu.params, hu.cfgDataPin, hu.cfgPullup, hu.cfgOdSupported, hu.hostQueue,
    fun p hp => ⟨hu.dir p hp, fun hq => hu.level p hp fun e => absurd e hq⟩, fun hi p hp => hu.level p hp fun _ => hi⟩

/-! ## The pullup pin -/

/-- The pullup pin is not the data pin, and between commands it is off while the transport is alive (10_state.md R23,
42_bitbyte.md R160). -/
structure PullupOff (s : State) : Prop where
  apart : s.cfgPullup ≠ some s.cfgDataPin
  off : ∀ q, s.cfgPullup = some q → s.transportDead = false → s.level.getLsbD q.toNat = false

/-- Every command but PULLUP leaves the pullup pin. -/
theorem PullupOff.of_frame {i : Instr} {s t : State} (hs : PullupOff s) (hi : ∀ u, i ≠ .pullup u)
    (h : LineFrame i s t) : PullupOff t where
  apart := by rw [h.cfgPullup, h.cfgDataPin]; exact hs.apart
  off q hq ht := by
    rw [h.cfgPullup] at hq
    rw [h.level q (fun e => hs.apart (e ▸ hq)) fun _ => hi]
    exact hs.off q hq (h.alive ht)

/-- A flush leaves the pullup pin: it does no more than FLUSH may. -/
theorem PullupOff.ifRoom_flush {s : State} (hs : PullupOff s) : (ifRoom s flush).Ends PullupOff :=
  (ifRoom_flush_run (.refl .flush s)).mono fun _ ht => hs.of_frame (by simp) ht.toLineFrame

/-- A flush with no sample to read fails only with the transport dead. -/
theorem ifRoom_flush_raise_dead {s t : State} {e : Err} (hn : nsamp s.buf = 0) (h : ifRoom s flush = .raise e t) :
    t.transportDead = true := by
  unfold ifRoom at h
  split at h
  · cases h
  · rcases flush_ends s with ⟨_, _, hf, -⟩ | ⟨_, _, hf, hd⟩ | ⟨hs, -⟩
    · cases hf.symm.trans h
    · cases hf.symm.trans h
      exact hd
    · exact absurd hn hs

theorem PullupOff.of_dead {i : Instr} {s t : State} (hs : PullupOff s) (h : LineFrame i s t) (hd : t.transportDead = true) :
    PullupOff t where
  apart := by rw [h.cfgPullup, h.cfgDataPin]; exact hs.apart
  off _ _ ht := absurd (hd.symm.trans ht) (by decide)

/-- Where no sample is buffered, PULLUP's wait leaves the pullup off: the write that raises it fails only with the transport
dead, and the next write switches it off. -/
theorem pullupWait_off (u : BitVec 24) (us : Nat) {s : State} (hs : PullupOff s) (hn : nsamp s.buf = 0) :
    (pullupWait us s).Ends PullupOff := by
  have run := pullupWait_run u us s
  unfold pullupWait at run ⊢
  split at run
  · next q hq =>
    have raised := ifRoom_flush_run (setPullup_frame (u := u) true hq)
    cases hr : ifRoom (setPullup q true s) flush with
    | ok vals t =>
      rw [hr] at raised
      refine PullupOff.ifRoom_flush ⟨?_, fun p hp _ => ?_⟩
      · show t.cfgPullup ≠ some t.cfgDataPin
        rw [raised.cfgPullup, raised.cfgDataPin]
        exact hs.apart
      · obtain rfl : q = p := Option.some.inj (hq.symm.trans (raised.cfgPullup.symm.trans hp))
        simp [getLsbD_setPin]
    | raise e t =>
      rw [hr] at raised
      have hw : nsamp (setPullup q true s).buf = 0 := by simp [nsamp, hn]
      exact ⟨hs.of_dead raised.1.toLineFrame (ifRoom_flush_raise_dead hw hr), raised.2⟩
    | stop r t => trivial
  · next hq =>
    refine run.mono fun t ht => ⟨?_, fun q hp => ?_⟩
    · simp [ht.cfgPullup, hq]
    · simp [ht.cfgPullup, hq] at hp

/-- PULLUP leaves the pullup pin off or the transport dead (42_bitbyte.md R160): without pending reads no sample is
buffered, and after the wait the completion read does no more than RBYTE may. -/
theorem pullupCommand_off (u : BitVec 24) (us : Nat) {s : State} (hs : PullupOff s) (hb : BatchInv s) :
    (pullupCommand us s).Ends PullupOff := by
  unfold pullupCommand
  split
  · exact ⟨hs, by simp⟩
  · split
    · exact ⟨hs, by simp⟩
    · next hp =>
      split
      · next hd => exact ⟨hs.of_dead (batchFields_frame .flush s false [] s.pend) hd, by simp⟩
      · split
        · trivial
        · have hn : nsamp s.buf = 0 := by rw [hb.samplesCounted, not_not.mp hp, pendSamples]
          exact (pullupWait_off u us hs hn).andThen fun _ t ht =>
            (pullupRead_run .rbyte t).mono fun _ hv => ht.of_frame (by simp) hv.toLineFrame

theorem busCommand_off {i : Instr} {c : State → Res (List Value)} (hc : busCommand i = some c) {s : State}
    (hs : PullupOff s) (hb : BatchInv s) : (c s).Ends PullupOff := by
  by_cases hi : ∃ u, i = .pullup u
  · obtain ⟨u, rfl⟩ := hi
    cases hc
    exact pullupCommand_off u _ hs hb
  · exact (busCommand_run hc s).mono fun _ ht => hs.of_frame (fun u e => hi ⟨u, e⟩) ht.toLineFrame

/-! ## The invariants of a session -/

theorem Inv.pullupOff {s : State} (h : Inv s) : PullupOff s := ⟨h.pullupApart, h.gpio.pullupLevel⟩

theorem BusRun.gpioInv {i : Instr} {s t : State} (h : BusRun i s t) (hg : GpioInv s) (hs : PullupOff s)
    (ht : PullupOff t) : GpioInv t where
  dataLevel := by rw [h.cfgDataPin]; exact h.dataLevel hs.apart hg.dataLevel
  dataDir := by rw [h.cfgDataPin]; exact h.dataDir hg.dataDir
  pullupDir q hq := by
    rw [h.cfgPullup] at hq
    rw [h.dir q fun e => hs.apart (e ▸ hq)]
    exact hg.pullupDir q hq
  pullupLevel := ht.off
  otherPins p hp hq := by
    rw [h.cfgDataPin] at hp
    rw [h.cfgPullup] at hq
    rw [h.level p hp fun e => absurd e hq, h.dir p hp]
    exact hg.otherPins p hp hq

theorem Inv.of_busRun {i : Instr} {s t : State} (h : Inv s) (hr : BusRun i s t) (ht : PullupOff t) : Inv t where
  pullupApart := ht.apart
  batch := (hr.batch ⟨h.batch, h.batchFits⟩).inv
  batchFits := (hr.batch ⟨h.batch, h.batchFits⟩).fits
  gpio := hr.gpioInv h.gpio h.pullupOff ht
  crcInWidth := by rw [hr.crcWidth, hr.crcAcc]; exact h.crcInWidth
  noDeviceNever := by rw [hr.lastStatus, hr.responses]; exact h.noDeviceNever

/-- The invariants speak of the configuration, the pins and the batch; of the rest of the state they only say that a dead
transport stays dead, the accumulator's width, and which responses are never given. -/
theorem Inv.of_sameLine {s t : State} (h : Inv s)
    (ht : t = { s with
      mode := t.mode, busPhase := t.busPhase, busSuspect := t.busSuspect, transportDead := t.transportDead
      crcAcc := t.crcAcc, crcWidth := t.crcWidth, lastStatus := t.lastStatus, trace := t.trace
      responses := t.responses, hostQueue := t.hostQueue, writeAnswers := t.writeAnswers
      readAnswers := t.readAnswers, samples := t.samples, freeDraws := t.freeDraws })
    (hdead : t.transportDead = false → s.transportDead = false) (hcrc : t.crcWidth = .crc8 → t.crcAcc.toNat < 256)
    (hno : t.lastStatus ≠ .noDevice ∧ ∀ r ∈ t.responses, r.status ≠ .noDevice) : Inv t := by
  rw [ht]
  exact {
    pullupApart := h.pullupApart
    batch := ⟨h.batch.idleEmpty, h.batch.samplesCounted, h.batch.inOrder⟩
    batchFits := h.batchFits
    gpio := ⟨h.gpio.dataLevel, h.gpio.dataDir, h.gpio.pullupDir, fun q hq ha => h.gpio.pullupLevel q hq (hdead ha),
      h.gpio.otherPins⟩
    crcInWidth := hcrc
    noDeviceNever := hno }

theorem Inv.of_hostQueue {s : State} (h : Inv s) (queue : List HostInput) : Inv { s with hostQueue := queue } :=
  h.of_sameLine rfl id h.crcInWidth h.noDeviceNever

theorem noDevice_snoc {rs : List Response} {r : Response} (h : ∀ x ∈ rs, x.status ≠ .noDevice)
    (hr : r.status ≠ .noDevice) : ∀ x ∈ rs ++ [r], x.status ≠ .noDevice := by
  simp only [List.forall_mem_append, List.forall_mem_singleton]
  exact ⟨h, hr⟩

theorem crcNext_crc8_lt (acc : Half) (d : Byte) : (crcNext .crc8 acc d).toNat < 256 := by
  rw [crcNext, BitVec.toNat_setWidth_of_le (by decide)]
  exact BitVec.isLt _

theorem Inv.of_quietRun {i : Instr} {s u : State} (h : Inv s) (hr : QuietRun s i u) : Inv u := by
  cases hr with
  | same => exact h
  | mode m => exact h.of_sameLine rfl id h.crcInWidth h.noDeviceNever
  | crci w => exact h.of_sameLine rfl id (fun _ => show (0#16).toNat < 256 by decide) h.noDeviceNever
  | crcb d =>
    refine h.of_sameLine rfl id (fun hw => ?_) h.noDeviceNever
    obtain hw : s.crcWidth = .crc8 := hw
    rw [hw]
    exact crcNext_crc8_lt s.crcAcc d

theorem Inv.respond {s : State} (h : Inv s) {status : Status} (hs : status ≠ .noDevice) (values : List Value) :
    Inv (respond status values s) :=
  h.of_sameLine rfl id h.crcInWidth ⟨hs, noDevice_snoc h.noDeviceNever.2 hs⟩

theorem exec_keeps_inv {i : Instr} {s t : State} (h : Inv s) (he : exec i s = .next t) : Inv t := by
  cases hc : busCommand i with
  | none =>
    obtain ⟨u, status, values, rfl, hu, hs⟩ := exec_quiet_next hc he
    exact (h.of_quietRun hu).respond hs values
  | some c =>
    have ends : (c s).Ends fun u => BusRun i s u ∧ PullupOff u :=
      (busCommand_run hc s).and (busCommand_off hc h.pullupOff h.batch)
    obtain ⟨u, status, values, rfl, ⟨hr, hoff⟩, hs⟩ := ends.finish (exec_busCommand hc s ▸ he)
    exact (h.of_busRun hr hoff).respond hs values

/-- An illegal word only answers IllegalCommand (60_exceptions.md R228). -/
theorem runWord_keeps_inv {w : Word} {s t : State} (h : Inv s) (hw : runWord w s = .next t) : Inv t := by
  unfold runWord at hw
  split at hw
  · exact exec_keeps_inv h hw
  · cases hw
    exact h.respond (by simp) _

/-! ## INIT -/

/-- After INIT only the data pin is high (10_state.md R31). -/
theorem getLsbD_initialLevel (p i : Pin) : (initialLevel p).getLsbD i.toNat = decide (i = p) := by
  have h : initialLevel p = setPin 0#16 p true := by simp [initialLevel, setPin]
  rw [h, getLsbD_setPin]
  simp [BitVec.toNat_inj]

/-- After INIT only the pullup pin is an output (10_state.md R31). -/
theorem getLsbD_initialDir (q : Option Pin) (i : Pin) : (initialDir q).getLsbD i.toNat = decide (q = some i) := by
  cases q with
  | none => simp [initialDir]
  | some q =>
    have h : initialDir (some q) = initialLevel q := rfl
    rw [h, getLsbD_initialLevel]
    simp [eq_comm]

theorem created_gpioInv (params : Params) {p : Pin} {q : Option Pin} (od : Bool) (hq : q ≠ some p) :
    GpioInv (State.created params p q od) where
  dataLevel := (getLsbD_initialLevel p p).trans (decide_eq_true rfl)
  dataDir := (getLsbD_initialDir q p).trans (decide_eq_false hq)
  pullupDir r hr := (getLsbD_initialDir q r).trans (decide_eq_true hr)
  pullupLevel r hr _ := (getLsbD_initialLevel p r).trans (decide_eq_false fun e => hq (e ▸ hr))
  otherPins i hi hr :=
    ⟨(getLsbD_initialLevel p i).trans (decide_eq_false hi), (getLsbD_initialDir q i).trans (decide_eq_false hr)⟩

theorem created_inv (params : Params) {p : Pin} {q : Option Pin} (od : Bool) (hq : q ≠ some p) :
    Inv (State.created params p q od) where
  pullupApart := hq
  batch := (batchOk_of_empty rfl rfl).inv
  batchFits := (batchOk_of_empty rfl rfl).fits
  gpio := created_gpioInv params od hq
  crcInWidth _ := show (0#16).toNat < 256 by decide
  noDeviceNever := ⟨nofun, nofun⟩

theorem txSetup_cases (s : State) :
    ∃ answers draws, (txSetup s).2 =
      { s with trace := s.trace ++ [.setup], writeAnswers := answers, freeDraws := draws } := by
  unfold txSetup drawWrite
  split <;> exact ⟨_, _, rfl⟩

/-- All that `InitTransport()` can do (70_reset_and_hazards.md R251): it records its calls, uses up answers, reports one
result, and sets the transport's flag if a call failed. -/
theorem initTransport_cases (s : State) :
    ∃ events answers draws dead r, initTransport s =
        { s with trace := events, writeAnswers := answers, freeDraws := draws, transportDead := dead,
                 responses := s.responses ++ [r] } ∧
      r.status ≠ .noDevice ∧ (dead = false → s.transportDead = false) := by
  obtain ⟨ws, draws, hs⟩ := txSetup_cases s
  unfold initTransport
  rcases h : txSetup s with ⟨a, t⟩
  rw [h] at hs
  subst hs
  cases a with
  | usbErr => exact ⟨_, _, _, true, _, rfl, by decide, nofun⟩
  | ok =>
    obtain ⟨ws', draws', hw⟩ := txWrite_cases [.gpio s.level s.dir]
      { s with trace := s.trace ++ [.setup], writeAnswers := ws, freeDraws := draws }
    dsimp only
    rcases h' : txWrite [.gpio s.level s.dir]
      { s with trace := s.trace ++ [.setup], writeAnswers := ws, freeDraws := draws } with ⟨b, u⟩
    rw [h'] at hw
    subst hw
    cases b with
    | usbErr => exact ⟨_, _, _, true, _, rfl, by decide, nofun⟩
    | ok => exact ⟨_, _, _, s.transportDead, _, rfl, by decide, id⟩

theorem initTransport_keeps_inv {s : State} (h : Inv s) : Inv (initTransport s) := by
  obtain ⟨events, ws, draws, dead, r, heq, hr, hd⟩ := initTransport_cases s
  rw [heq]
  exact h.of_sameLine rfl hd h.crcInWidth ⟨h.noDeviceNever.1, noDevice_snoc h.noDeviceNever.2 hr⟩

theorem initEngine_inv {p : Pin} {q : Option Pin} {od : Bool} {s t : State} (h : initEngine p q od s = .next t) :
    Inv t := by
  unfold initEngine at h
  split at h
  · cases h
  · next hq =>
    split at h
    · cases h
    · cases h
      have created := created_inv s.params od hq
      exact initTransport_keeps_inv (created.of_sameLine rfl id created.crcInWidth created.noDeviceNever)

/-! ## One step -/

/-- Settles O50: INIT creates a session that meets the invariants, and a word that is carried out keeps them. -/
theorem stepKeepsInvariants : Obligations.StepKeepsInvariants := by
  intro s t h hstep
  cases hq : s.hostQueue with
  | nil =>
    cases (step_of_idle hq).symm.trans hstep
    exact h
  | cons x rest =>
    rw [step_of_issued hq] at hstep
    cases x with
    | init p q od => exact initEngine_inv hstep
    | command w => exact runWord_keeps_inv (h.of_hostQueue rest) hstep

end Sys2Proof.Machine
end

section
/-! PROOF. The order of the transport calls: what each operation appends to the trace may stand after any trace
(20_memory.md R52, R53, R67). -/

namespace Sys2Proof.Machine

/-! ## What may be appended to a trace -/

/-- Events that are in order whatever stands before them may follow any events that are in order. -/
theorem traceInOrder_append {before : Option Nat} {xs ys : List Event} (hx : traceInOrder before xs)
    (hy : ∀ b, traceInOrder b ys) : traceInOrder before (xs ++ ys) := by
  induction xs generalizing before with
  | nil => exact hy before
  | cons x xs ih =>
    cases x with
    | setup | sleep us => exact ih hx
    | txWrite elems => exact ⟨hx.1, ih hx.2⟩
    | txRead n o =>
      obtain ⟨hb, hn, ho, hx⟩ := hx
      exact ⟨hb, hn, ho, ih hx⟩

theorem TraceInv.append {s t : State} {later : List Event} (h : TraceInv s) (ht : t.trace = s.trace ++ later)
    (hl : ∀ before, traceInOrder before later) : TraceInv t := by
  rw [TraceInv, ht]
  exact traceInOrder_append h hl

/-! ## The transport calls -/

theorem txSetup_keeps_traceInv {s : State} (h : TraceInv s) : TraceInv (txSetup s).2 := by
  obtain ⟨answers, draws, hs⟩ := txSetup_cases s
  exact h.append (later := [.setup]) (by rw [hs]) fun _ => trivial

theorem hostSleep_keeps_traceInv {s : State} (h : TraceInv s) (us : Nat) : TraceInv (hostSleep us s) :=
  h.append (later := [.sleep us]) rfl fun _ => trivial

theorem txWrite_keeps_traceInv {elems : List Elem} {s : State} (h : TraceInv s) (he : elems ≠ []) :
    TraceInv (txWrite elems s).2 := by
  obtain ⟨answers, draws, hw⟩ := txWrite_cases elems s
  exact h.append (later := [.txWrite elems]) (by rw [hw]) fun _ => ⟨he, trivial⟩

/-- A read keeps the order only directly after the write whose samples it asks for, so the two calls are one step. -/
theorem txWrite_txRead_keeps_traceInv {elems : List Elem} {s : State} (h : TraceInv s) (he : elems ≠ [])
    (hn : nsamp elems ≠ 0) : TraceInv (txRead (nsamp elems) (txWrite elems s).2).2 := by
  obtain ⟨answers, draws, hw⟩ := txWrite_cases elems s
  obtain ⟨kinds, bits, draws', hr⟩ := txRead_cases (nsamp elems) (txWrite elems s).2
  have fits := txRead_fits (nsamp elems) (txWrite elems s).2
  refine h.append (later := [.txWrite elems, .txRead (nsamp elems) (txRead (nsamp elems) (txWrite elems s).2).1]) ?_
    fun _ => ⟨he, rfl, Nat.pos_of_ne_zero hn, fits, trivial⟩
  rw [hr]
  simp [hw]

/-! ## The batch -/

/-- `Flush()` writes no empty buffer, and reads only after its write and only where samples were written (41_batch.md
R123). -/
theorem flush_keeps_traceInv {s : State} (h : TraceInv s) : (flush s).Ends TraceInv := by
  have write (hb : s.buf ≠ []) : TraceInv (txWrite s.buf (clearBatch s)).2 := txWrite_keeps_traceInv h hb
  have read (hb : s.buf ≠ []) (hn : nsamp s.buf ≠ 0) :
      TraceInv (txRead (nsamp s.buf) (txWrite s.buf (clearBatch s)).2).2 := txWrite_txRead_keeps_traceInv h hb hn
  rcases flush_cases s with ⟨-, hf⟩ | ⟨hb, t, ht, hf⟩ | ⟨hb, -, t, ht, hf⟩ | ⟨hb, hn, t, u, ht, hu, hf⟩ |
    ⟨hb, hn, t, u, ht, hu, hf⟩ | ⟨hb, hn, t, u, bs, ht, hu, hf⟩ <;> rw [hf]
  · exact h
  all_goals rw [ht] at write read
  · exact ⟨write hb, by simp⟩
  · exact write hb
  all_goals rw [hu] at read
  · exact ⟨read hb hn, by simp⟩
  · exact ⟨read hb hn, by simp⟩
  · exact read hb hn

theorem ifRoom_flush_keeps_traceInv {s : State} (h : TraceInv s) : (ifRoom s flush).Ends TraceInv :=
  .ifRoom fun _ => flush_keeps_traceInv h

/-- A body only appends to the batch: no transport call stands in it. -/
def CallsNothing (body : State → List Nat × State) : Prop := ∀ s, (body s).2.trace = s.trace

theorem wbitBody_callsNothing (b : Bool) : CallsNothing (wbitBody b) := fun s => by rw [wbitBody_eq]; rfl

theorem wbyteBody_callsNothing (d : Byte) : CallsNothing (wbyteBody d) := fun s => by rw [wbyteBody_eq]; rfl

theorem rbitBody_callsNothing : CallsNothing rbitBody := fun s => by rw [rbitBody_eq]; rfl

theorem rbyteBody_callsNothing : CallsNothing rbyteBody := fun s => by rw [rbyteBody_eq]; rfl

theorem CallsNothing.keeps_traceInv {body : State → List Nat × State} (hb : CallsNothing body) {s : State}
    (h : TraceInv s) : TraceInv (body s).2 := by
  rw [TraceInv, hb]
  exact h

theorem implicitBatch_keeps_traceInv {body : State → List Nat × State} (hb : CallsNothing body) {s : State}
    (h : TraceInv s) : (implicitBatch body s).Ends TraceInv := by
  unfold implicitBatch
  split
  · exact ⟨h, by simp⟩
  · exact ifRoom_flush_keeps_traceInv (hb.keeps_traceInv h)

theorem bitCommand_keeps_traceInv {body : State → List Nat × State} (hb : CallsNothing body) {s : State}
    (h : TraceInv s) : (bitCommand body s).Ends TraceInv := by
  unfold bitCommand
  split
  · trivial
  · unfold withBatch
    split
    · exact .ifRoom fun _ => hb.keeps_traceInv h
    · exact (implicitBatch_keeps_traceInv hb h).andThen fun _ _ => id

theorem flushCommand_keeps_traceInv {s : State} (h : TraceInv s) : (flushCommand s).Ends TraceInv := by
  unfold flushCommand
  split
  · exact ⟨h, by simp⟩
  · split
    · exact ⟨h, by simp⟩
    · exact (flush_keeps_traceInv h).andThen fun _ _ => id

/-! ## RESET and SEARCH -/

theorem resetOnce_keeps_traceInv {s : State} (h : TraceInv s) : (resetOnce s).Ends TraceInv := by
  have slot : TraceInv (resetSlot (pendRead .rst { s with collecting := true }).2) := by
    rw [resetSlot_eq]
    exact h
  exact (ifRoom_flush_keeps_traceInv slot).andThen fun _ _ => id

theorem resetBody_keeps_traceInv {s : State} (h : TraceInv s) : (resetBody s).Ends TraceInv := by
  refine (resetOnce_keeps_traceInv h).andThen fun p t ht => ?_
  split
  · have retry : (resetOnce { t with mode := .std }).Ends TraceInv := resetOnce_keeps_traceInv ht
    exact retry.andThen fun _ _ => id
  · exact ht

theorem resetCommand_keeps_traceInv {s : State} (h : TraceInv s) : (resetCommand s).Ends TraceInv := by
  unfold resetCommand
  split
  · exact ⟨h, by simp⟩
  · split
    · exact ⟨h, by simp⟩
    · exact (resetBody_keeps_traceInv h).andThen fun _ _ => id

theorem pollBit_keeps_traceInv {s : State} (h : TraceInv s) : (pollBit s).Ends TraceInv :=
  (implicitBatch_keeps_traceInv rbitBody_callsNothing h).andThen fun _ _ => id

theorem searchLevels_keeps_traceInv (P : List Bool) (n : Nat) (cur : List Bool) (stack : List (List Bool)) {s : State}
    (h : TraceInv s) : (searchLevels P n cur stack s).Ends TraceInv := by
  induction n generalizing cur stack s with
  | zero => exact h
  | succ n ih =>
    refine (pollBit_keeps_traceInv h).andThen fun a t ht => (pollBit_keeps_traceInv ht).andThen fun c u hu => ?_
    have write (b : Bool) := implicitBatch_keeps_traceInv (wbitBody_callsNothing b) hu
    split
    · exact ⟨hu, by simp⟩
    · exact hu
    · next b _ => exact (write b).andThen fun _ _ hv => ih _ _ hv
    · exact (write false).andThen fun _ _ hv => ih _ _ hv

theorem checkCode_keeps_traceInv (code : List Byte) (stack : List (List Bool)) {s : State} (h : TraceInv s) :
    (checkCode code stack s).Ends TraceInv := by
  unfold checkCode
  split
  · exact ⟨h, by simp⟩
  · exact h

theorem searchPass_keeps_traceInv (P : List Bool) (stack : List (List Bool)) {s : State} (h : TraceInv s) :
    (searchPass P stack s).Ends TraceInv := by
  refine (resetBody_keeps_traceInv h).andThen fun p t ht => ?_
  split
  · exact ht
  · refine (implicitBatch_keeps_traceInv (wbyteBody_callsNothing _) ht).andThen fun _ u hu =>
      (searchLevels_keeps_traceInv P _ [] stack hu).andThen fun out v hv => ?_
    split
    · exact hv
    · exact checkCode_keeps_traceInv _ _ hv

theorem searchLoop_keeps_traceInv (fuel : Nat) (stack : List (List Bool)) (results : List (List Byte)) {s : State}
    (h : TraceInv s) : (searchLoop fuel stack results s).Ends TraceInv := by
  induction fuel generalizing stack results s with
  | zero => exact h
  | succ fuel ih =>
    cases stack with
    | nil => exact h
    | cons P stack =>
      refine (searchPass_keeps_traceInv P stack h).andThen fun out t ht => ?_
      split
      · exact ih _ _ ht
      · split
        · trivial
        · exact ih _ _ ht

theorem searchCommand_keeps_traceInv {s : State} (h : TraceInv s) : (searchCommand s).Ends TraceInv := by
  unfold searchCommand
  split
  · exact ⟨h, by simp⟩
  · split
    · exact ⟨h, by simp⟩
    · exact (searchLoop_keeps_traceInv _ _ _ h).andThen fun _ _ => id

/-! ## PULLUP -/

theorem pullupWait_keeps_traceInv (us : Nat) {s : State} (h : TraceInv s) : (pullupWait us s).Ends TraceInv := by
  unfold pullupWait
  split
  · next q _ =>
    have raised : TraceInv (setPullup q true s) := h
    refine (ifRoom_flush_keeps_traceInv raised).andThen fun _ t ht => ?_
    have slept : TraceInv (hostSleep us t) := hostSleep_keeps_traceInv ht us
    exact ifRoom_flush_keeps_traceInv slept
  · exact (flush_keeps_traceInv h).andThen fun _ t ht => hostSleep_keeps_traceInv ht us

theorem pullupRead_keeps_traceInv {s : State} (h : TraceInv s) : (pullupRead s).Ends TraceInv := by
  have opened : TraceInv { s with collecting := true } := h
  exact (ifRoom_flush_keeps_traceInv (rbyteBody_callsNothing.keeps_traceInv opened)).andThen fun _ _ => id

theorem pullupCommand_keeps_traceInv (us : Nat) {s : State} (h : TraceInv s) :
    (pullupCommand us s).Ends TraceInv := by
  unfold pullupCommand
  split
  · exact ⟨h, by simp⟩
  · split
    · exact ⟨h, by simp⟩
    · split
      · exact ⟨h, by simp⟩
      · split
        · trivial
        · exact (pullupWait_keeps_traceInv us h).andThen fun _ _ => pullupRead_keeps_traceInv

/-! ## One step -/

theorem busCommand_keeps_traceInv {i : Instr} {c : State → Res (List Value)} (hc : busCommand i = some c) {s : State}
    (h : TraceInv s) : (c s).Ends TraceInv := by
  cases i <;> cases hc
  case beginBatch =>
    dsimp only
    split
    · exact ⟨h, by simp⟩
    · exact h
  case flush => exact flushCommand_keeps_traceInv h
  case reset => exact resetCommand_keeps_traceInv h
  case wbit b => exact bitCommand_keeps_traceInv (wbitBody_callsNothing b) h
  case rbit => exact bitCommand_keeps_traceInv rbitBody_callsNothing h
  case wbyte d => exact bitCommand_keeps_traceInv (wbyteBody_callsNothing d) h
  case rbyte => exact bitCommand_keeps_traceInv rbyteBody_callsNothing h
  case pullup u => exact pullupCommand_keeps_traceInv _ h
  case search => exact searchCommand_keeps_traceInv h

theorem QuietRun.trace_eq {s u : State} {i : Instr} (h : QuietRun s i u) : u.trace = s.trace := by
  cases h <;> rfl

theorem exec_keeps_traceInv {i : Instr} {s t : State} (h : TraceInv s) (he : exec i s = .next t) : TraceInv t := by
  cases hc : busCommand i with
  | none =>
    obtain ⟨u, status, values, rfl, hu, -⟩ := exec_quiet_next hc he
    rw [TraceInv, respond_trace, hu.trace_eq]
    exact h
  | some c =>
    obtain ⟨u, status, values, rfl, hu, -⟩ := (busCommand_keeps_traceInv hc h).finish (exec_busCommand hc s ▸ he)
    exact hu

theorem runWord_keeps_traceInv {w : Word} {s t : State} (h : TraceInv s) (hw : runWord w s = .next t) :
    TraceInv t := by
  unfold runWord at hw
  split at hw
  · exact exec_keeps_traceInv h hw
  · cases hw
    exact h

/-- `InitTransport()` makes its two calls in order (70_reset_and_hazards.md R251). -/
theorem initTransport_keeps_traceInv {s : State} (h : TraceInv s) : TraceInv (initTransport s) := by
  have setup := txSetup_keeps_traceInv h
  unfold initTransport
  split
  · next t hs =>
    rw [hs] at setup
    exact setup
  · next t hs =>
    rw [hs] at setup
    have write := txWrite_keeps_traceInv setup (List.cons_ne_nil (.gpio t.level t.dir) [])
    split
    all_goals
      next u hw =>
        rw [hw] at write
        exact write

/-- A session starts with an empty trace. -/
theorem initEngine_traceInv {p : Pin} {q : Option Pin} {od : Bool} {s t : State} (h : initEngine p q od s = .next t) :
    TraceInv t := by
  unfold initEngine at h
  split at h
  · cases h
  · split at h
    · cases h
    · cases h
      exact initTransport_keeps_traceInv trivial

/-- Settles O51: INIT starts a trace of its own, and every command appends only a `Flush()`'s calls and sleeps. -/
theorem stepKeepsTransportOrder : Obligations.StepKeepsTransportOrder := by
  intro s t h hstep
  cases hq : s.hostQueue with
  | nil =>
    cases (step_of_idle hq).symm.trans hstep
    exact h
  | cons x rest =>
    rw [step_of_issued hq] at hstep
    cases x with
    | init p q od => exact initEngine_traceInv hstep
    | command w => exact runWord_keeps_traceInv (s := { s with hostQueue := rest }) h hstep

end Sys2Proof.Machine
end

section
/-! PROOF. The bytes of the transport calls (20_memory.md R52, R56, R60, 30_encoding.md R90). -/

namespace Sys2Proof.Machine

/-- The divisor of a clock-set command goes low byte first (30_encoding.md R90). -/
theorem clkset_bytes (d : Half) :
    ∃ lo hi : Byte, lo.toNat = d.toNat % 256 ∧ hi.toNat = d.toNat / 256 ∧ clkset d = [0x86#8, lo, hi] := by
  refine ⟨d.extractLsb' 0 8, d.extractLsb' 8 8, by simp, ?_, rfl⟩
  have high : d.toNat / 256 < 256 := by omega
  simp [Nat.shiftRight_eq_div_pow, Nat.mod_eq_of_lt high]

theorem encElems_eq_flatten (p : Pin) (es : List Elem) : encElems p es = (es.map (encElem p)).flatten := by
  induction es with
  | nil => rfl
  | cons e es ih => simp [encElems, ih]

/-- Settles O60: the bytes of a delay are those of its clock-set command, the bytes of a write are concatenated by
induction, and every other byte is the definition's own. -/
theorem transportBytes : Obligations.TransportBytes := by
  refine ⟨fun _ _ _ => rfl, fun _ => rfl, fun p iv m d => ?_, fun _ => rfl, encElems_eq_flatten, fun _ => rfl⟩
  obtain ⟨lo, hi, hlo, hhi, hd⟩ := clkset_bytes d
  exact ⟨lo, hi, hlo, hhi, by rw [encElem, hd]⟩

end Sys2Proof.Machine
end

section
/-! PROOF. The decoder and the encoder are inverse to each other, and the decoder accepts exactly the words of the rows
(30_encoding.md R70-R84). -/

namespace Sys2Proof

/-! ## The row of an opcode -/

theorem mem_of_findRow {op : Byte} {rows : List OpcodeRow} {row : OpcodeRow} (h : findRow op rows = some row) :
    row ∈ rows := by
  induction rows with
  | nil => cases h
  | cons r rows ih =>
    unfold findRow at h
    split at h
    case isTrue =>
      cases h
      exact List.mem_cons_self
    case isFalse => exact List.mem_cons_of_mem r (ih h)

theorem findRow_of_mem {rows : List OpcodeRow} {row : OpcodeRow} (hd : (rows.map OpcodeRow.op).Nodup)
    (hmem : row ∈ rows) : findRow row.op rows = some row := by
  induction hmem with
  | head => exact if_pos rfl
  | tail r hmem ih =>
    obtain ⟨hr, hd⟩ := List.nodup_cons.mp hd
    have hne : r.op ≠ row.op := fun e => hr (e ▸ List.mem_map_of_mem hmem)
    exact (if_neg hne).trans (ih hd)

/-- No opcode has two rows (30_encoding.md R77). -/
theorem opcodeRows_nodup : (opcodeRows.map OpcodeRow.op).Nodup := by decide

/-! ## The word of a row: its opcode and the operand that its format reads -/

/-- The operand field [23:0] of a word as a format reads it, the bits that the format fixes being zero (30_encoding.md
R71-R76). -/
def Format.operandOf : Format → Word → BitVec 24
  | .n, _ => 0#24
  | .m, w => 0#23 ++ BitVec.ofBool (mField w)
  | .b, w => 0#16 ++ bField w
  | .t, w => 0#20 ++ tField w
  | .r, w => 0#21 ++ rField w
  | .u, w => uField w

@[simp] theorem Mode.toBit_ofBit (b : Bool) : (Mode.ofBit b).toBit = b := by cases b <;> rfl

@[simp] theorem CrcWidth.toBit_ofBit (b : Bool) : (CrcWidth.ofBit b).toBit = b := by cases b <;> rfl

theorem opcode_build (w : Word) : ∀ row ∈ opcodeRows, (row.build w).opcode = row.op := by
  simp [opcodeRows, Instr.opcode]

theorem operand_build (w : Word) : ∀ row ∈ opcodeRows, (row.build w).operand = row.format.operandOf w := by
  simp [opcodeRows, Instr.operand, Format.operandOf]

/-! ## A word that matches a row -/

/-- Every mask covers the opcode (30_encoding.md R77). -/
theorem opField_of_matches {w : Word} {fmt : Format} {op : Byte} (h : w &&& fmt.mask = matchValue op) :
    opField w = op := by
  have hmask : opField fmt.mask = BitVec.allOnes 8 := by cases fmt <;> rfl
  calc opField w = opField w &&& opField fmt.mask := by rw [hmask, BitVec.and_allOnes]
    _ = opField (w &&& fmt.mask) := BitVec.extractLsb'_and.symm
    _ = op := by rw [h]; exact opField_append op 0#24

/-- A mask that covers the opcode and the z bits above an operand of k bits (30_encoding.md R72-R75). -/
theorem append_field_of_matches {z k : Nat} {op : Byte} {w : BitVec (8 + (z + k))}
    (h : w &&& (BitVec.allOnes 8 ++ (BitVec.allOnes z ++ 0#k)) = op ++ (0#z ++ 0#k)) :
    op ++ (0#z ++ w.extractLsb' 0 k) = w := by
  have hop : w.extractLsb' (z + k) 8 = op := by
    have e := congrArg (BitVec.extractLsb' (z + k) 8) h
    rwa [BitVec.extractLsb'_and, BitVec.extractLsb'_append_eq_left, BitVec.extractLsb'_append_eq_left,
      BitVec.and_allOnes] at e
  have hzero : w.extractLsb' k z = 0#z := by
    have e := congrArg (BitVec.extractLsb' k z) h
    rwa [BitVec.extractLsb'_and, BitVec.extractLsb'_append_eq_of_add_le (by omega), BitVec.extractLsb'_append_eq_left,
      BitVec.extractLsb'_append_eq_of_add_le (by omega), BitVec.extractLsb'_append_eq_left, BitVec.and_allOnes] at e
  rw [← hop, ← hzero, BitVec.extractLsb'_append_extractLsb'_eq_extractLsb' (Nat.zero_add k).symm]
  exact BitVec.extractLsb'_append_extractLsb'

theorem ofBool_mField (w : Word) : BitVec.ofBool (mField w) = w.extractLsb' 0 1 := by
  rw [mField, ← BitVec.setWidth_one, BitVec.setWidth_eq_extractLsb' (by decide)]

/-- Opcode and operand are the whole word: a mask drops no bit (30_encoding.md R77). -/
theorem op_append_operandOf {w : Word} {fmt : Format} {op : Byte} (h : w &&& fmt.mask = matchValue op) :
    op ++ fmt.operandOf w = w := by
  cases fmt with
  | n => exact h.symm.trans BitVec.and_allOnes
  | m =>
    rw [Format.operandOf, ofBool_mField]
    exact append_field_of_matches h
  | b => exact append_field_of_matches h
  | t => exact append_field_of_matches h
  | r => exact append_field_of_matches h
  | u =>
    rw [← opField_of_matches h]
    exact BitVec.extractLsb'_append_extractLsb'

theorem encode_build_of_matches {w : Word} {row : OpcodeRow} (hrow : row ∈ opcodeRows)
    (h : w &&& row.format.mask = matchValue row.op) : encode (row.build w) = w := by
  rw [encode, opcode_build w row hrow, operand_build w row hrow, op_append_operandOf h]

/-- 30_encoding.md R78: a word decodes to what a row that it matches builds from it, where that is well-formed. -/
theorem decode_eq_ok_iff {w : Word} {i : Instr} :
    decode w = .ok i ↔
      ∃ row ∈ opcodeRows, w &&& row.format.mask = matchValue row.op ∧ row.build w = i ∧ i.wellFormed = true := by
  constructor
  · intro h
    unfold decode at h
    split at h
    case h_1 => cases h
    case h_2 row hrow =>
      split at h
      case isTrue => cases h
      case isFalse hmatch =>
        split at h
        case isTrue hwf =>
          cases h
          exact ⟨row, mem_of_findRow hrow, not_not.mp hmatch, rfl, hwf⟩
        case isFalse => cases h
  · rintro ⟨row, hmem, hmatch, hbuild, hwf⟩
    have hrow : findRow (opField w) opcodeRows = some row := by
      rw [opField_of_matches hmatch]
      exact findRow_of_mem opcodeRows_nodup hmem
    exact decode_of_row hrow hmatch hbuild hwf

/-! ## The operands that R84 limits -/

theorem encode_tq_toNat (iv : BitVec 4) : (encode (.tq iv)).toNat = 0x01000000 + iv.toNat := by
  revert iv; decide

theorem encode_rdreg_toNat (r : BitVec 3) : (encode (.rdreg r)).toNat = 0x40000000 + r.toNat := by
  revert r; decide

/-- 30_encoding.md R84, read off the word of a command. -/
theorem wellFormed_iff_encode (i : Instr) :
    i.wellFormed = true ↔
      (i.opcode = 0x01#8 → (encode i).toNat % 16 ≤ 10) ∧ (i.opcode = 0x40#8 → (encode i).toNat % 8 ≤ 5) := by
  cases i with
  | tq iv =>
    have hmod : (encode (.tq iv)).toNat % 16 = iv.toNat := by rw [encode_tq_toNat]; omega
    simp [Instr.wellFormed, Instr.opcode, hmod]
  | rdreg r =>
    have hmod : (encode (.rdreg r)).toNat % 8 = r.toNat := by rw [encode_rdreg_toNat]; omega
    simp [Instr.wellFormed, Instr.opcode, hmod]
  | _ => simp [Instr.wellFormed, Instr.opcode]

theorem wellFormed_build_iff {w : Word} {row : OpcodeRow} (hrow : row ∈ opcodeRows)
    (h : w &&& row.format.mask = matchValue row.op) :
    (row.build w).wellFormed = true ↔
      (row.op = 0x01#8 → w.toNat % 16 ≤ 10) ∧ (row.op = 0x40#8 → w.toNat % 8 ≤ 5) := by
  rw [wellFormed_iff_encode, encode_build_of_matches hrow h, opcode_build w row hrow]

/-! ## The statements -/

/-- Settles O2: the round trip of one command. -/
theorem decodeOfEncode : Obligations.DecodeOfEncode := fun _ hwf => decode_encode hwf

/-- Settles O3: the word matches the row that built the command, and a row's opcode and operand are the whole word. -/
theorem encodeOfDecode : Obligations.EncodeOfDecode := by
  intro w i h
  obtain ⟨row, hrow, hmatch, rfl, hwf⟩ := decode_eq_ok_iff.mp h
  exact ⟨hwf, encode_build_of_matches hrow hmatch⟩

/-- Settles O4: of a word that matches a row, well-formedness says the row's value constraint, and its opcode is the
row's. -/
theorem decodesExactlyTheRows : Obligations.DecodesExactlyTheRows := by
  intro w
  refine ⟨⟨?_, ?_⟩, fun r₁ _ r₂ _ h₁ h₂ => (opField_of_matches h₁).symm.trans (opField_of_matches h₂)⟩
  · rintro ⟨i, h⟩
    obtain ⟨row, hrow, hmatch, rfl, hwf⟩ := decode_eq_ok_iff.mp h
    exact ⟨row, hrow, hmatch, (wellFormed_build_iff hrow hmatch).mp hwf⟩
  · rintro ⟨row, hrow, hmatch, hrange⟩
    exact ⟨_, decode_eq_ok_iff.mpr ⟨row, hrow, hmatch, rfl, (wellFormed_build_iff hrow hmatch).mpr hrange⟩⟩

/-- Settles O1: the decoder runs on each word. -/
theorem vectorWordsDecode : Obligations.VectorWordsDecode := by
  unfold Obligations.VectorWordsDecode
  decide

end Sys2Proof

namespace Sys2Proof.Machine

/-! ## TQ and RDREG out of range -/

theorem intervalOfIndex_eq_none_iff {iv : BitVec 4} : intervalOfIndex iv = none ↔ 10 < iv.toNat := by
  revert iv; decide

theorem regOfNumber_eq_none_iff {r : BitVec 3} : regOfNumber r = none ↔ 5 < r.toNat := by
  revert r; decide

/-- Settles O11: an operand out of range names no interval and no register, and the response holds the encoded word. -/
theorem operandsOutOfRangeAreIllegal : Obligations.OperandsOutOfRangeAreIllegal := by
  intro s
  constructor
  · intro iv hiv
    rw [← encode_tq_toNat]
    simp only [exec, execTq, intervalOfIndex_eq_none_iff.mpr hiv]
    rfl
  · intro r hr
    rw [← encode_rdreg_toNat]
    simp only [exec, execRdreg, regOfNumber_eq_none_iff.mpr hr]
    rfl

end Sys2Proof.Machine
end

section
/-! PROOF. The commands that CRC8 and CRC16 stand for (30_encoding.md R83, 43_crc.md). -/

namespace Sys2Proof.Machine

/-! ## Commands one after the other -/

theorem runCommands_cons_of_next {i : Instr} {is : List Instr} {s t : State} (h : exec i s = .next t) :
    runCommands (i :: is) s = runCommands is t := by
  simp [runCommands, h]

/-! ## The CRC commands (43_crc.md R172-R175) -/

theorem exec_crci (w : CrcWidth) (s : State) :
    exec (.crci w) s = .next (respond .ok [] { s with crcWidth := w, crcAcc := 0#16 }) := rfl

theorem exec_crcb (d : Byte) (s : State) :
    exec (.crcb d) s = .next (respond .ok [] { s with crcAcc := crcNext s.crcWidth s.crcAcc d }) := rfl

theorem exec_crcr (s : State) : exec .crcr s = .next (respond .ok [.num s.crcAcc.toNat] s) := rfl

/-! ## The accumulator over a message (43_crc.md R179) -/

theorem foldl_crcNext_crc16 (acc : Half) (data : List Byte) :
    data.foldl (crcNext .crc16) acc = crcFrom poly16 acc data := by
  induction data generalizing acc with
  | nil => rfl
  | cons d ds ih => exact ih (crcByte poly16 acc d)

/-- A CRC-8 accumulator holds its value in the low byte (10_state.md R35). -/
theorem crcNext_crc8_setWidth (c : BitVec 8) (d : Byte) :
    crcNext .crc8 (c.setWidth 16) d = (crcByte poly8 c d).setWidth 16 := by
  have low : (c.setWidth 16).extractLsb' 0 8 = c := by simp [BitVec.extractLsb'_setWidth_of_le]
  rw [crcNext, low]

theorem foldl_crcNext_crc8 (c : BitVec 8) (data : List Byte) :
    data.foldl (crcNext .crc8) (c.setWidth 16) = (crcFrom poly8 c data).setWidth 16 := by
  induction data generalizing c with
  | nil => rfl
  | cons d ds ih =>
    rw [List.foldl_cons, crcNext_crc8_setWidth]
    exact ih (crcByte poly8 c d)

theorem foldl_crcNext_toNat (w : CrcWidth) (data : List Byte) :
    (data.foldl (crcNext w) 0#16).toNat =
      (match w with | .crc8 => (crc8 data).toNat | .crc16 => (crc16 data).toNat) := by
  cases w with
  | crc8 => exact (congrArg BitVec.toNat (foldl_crcNext_crc8 0#8 data)).trans (BitVec.toNat_setWidth_of_le (by decide))
  | crc16 => exact congrArg BitVec.toNat (foldl_crcNext_crc16 0#16 data)

/-- CRCB for each byte of a message, after a command that completed with OK. -/
theorem runCommands_map_crcb (data : List Byte) (is : List Instr) {s : State} (hs : s.lastStatus = .ok) :
    runCommands (data.map .crcb ++ is) s =
      runCommands is { s with
        crcAcc := data.foldl (crcNext s.crcWidth) s.crcAcc
        responses := s.responses ++ List.replicate data.length ⟨.ok, []⟩ } := by
  induction data generalizing s with
  | nil => simp
  | cons d ds ih =>
    rw [List.map_cons, List.cons_append, runCommands_cons_of_next (exec_crcb d s), ih (by simp)]
    simp [respond, hs, List.replicate_succ]

/-- Settles O40: CRCI clears the accumulator, each CRCB takes in one byte, and CRCR returns what they leave. -/
theorem crcOfMessageIsReturned : Obligations.CrcOfMessageIsReturned := by
  intro s w data
  refine ⟨data.foldl (crcNext w) 0#16, foldl_crcNext_toNat w data, ?_⟩
  rw [Pseudo.expand, List.cons_append, runCommands_cons_of_next (exec_crci w s)]
  rw [runCommands_map_crcb data [.crcr] (by simp), runCommands_cons_of_next (exec_crcr _)]
  simp [runCommands, respond, List.replicate_succ]

end Sys2Proof.Machine
end

section
/-! PROOF. The divisor and the commands of 40_timing.md. -/

namespace Sys2Proof.Machine

/-! ## The divisor (40_timing.md R100, R109) -/

/-- The quotient in `divExact` is the ceiling of `n / 2000000000` (40_timing.md R100). -/
theorem ceiling_le_iff (n j : Nat) : (n + 1999999999) / 2000000000 ≤ j ↔ n ≤ 2000000000 * j := by omega

/-- A divisor of at most 16 bits fits in its field of the clock-set command (30_encoding.md R90). -/
theorem divExact_toNat {width : Nat} (hw : width ≤ 16) (base : Nat) {ns : Nat} (hns : ns ≠ 0) :
    (divExact width base ns).toNat = ((base * ns + 1999999999) / 2000000000 - 1) % 2 ^ width := by
  rw [divExact, if_neg hns, BitVec.toNat_ofNat]
  refine Nat.mod_eq_of_lt (lt_of_lt_of_le (Nat.mod_lt _ (Nat.two_pow_pos width)) ?_)
  exact Nat.pow_le_pow_right (by decide) hw

/-- Settles O15: `k` is the quotient that `divExact` computes, and a ceiling is the least integer that is large enough. -/
theorem divisorIsLeastCeiling : Obligations.DivisorIsLeastCeiling := by
  intro width base ns hw hbase
  refine ⟨rfl, fun hns => ⟨(base * ns + 1999999999) / 2000000000, ?_, ?_, ?_, divExact_toNat hw base hns.ne'⟩⟩
  · have hpos : 0 < base * ns := Nat.mul_pos hbase hns
    omega
  · exact (ceiling_le_iff _ _).mp le_rfl
  · exact fun j hj => (ceiling_le_iff _ _).mpr hj

/-- Settles O16: both divisors are evaluated at every length of the two tables. -/
theorem binaryDivisorDiffersAtFour : Obligations.BinaryDivisorDiffersAtFour := by
  unfold Obligations.BinaryDivisorDiffersAtFour
  decide

/-! ## TQ and TQN (40_timing.md R103, R105) -/

/-- The values of a clock-set command's response. -/
theorem byteValues_clkset (d : Half) :
    byteValues (clkset d) = [.num 0x86, .num (d.toNat % 256), .num (d.toNat / 256)] := by
  obtain ⟨lo, hi, hlo, hhi, hd⟩ := clkset_bytes d
  simp [byteValues, hd, hlo, hhi]

/-- TQ of an interval that has a length in the mode in force. -/
theorem exec_tq {iv : BitVec 4} {s : State} {ns : Nat}
    (h : (intervalOfIndex iv).bind (lengthOf s.params s.mode) = some ns) :
    exec (.tq iv) s = .next (respond .ok
      [.num 0x86, .num ((divisor s.params ns).toNat % 256), .num ((divisor s.params ns).toNat / 256)] s) := by
  obtain ⟨interval, hi, hl⟩ := Option.bind_eq_some_iff.mp h
  simp only [exec, execTq, hi, hl, byteValues_clkset, finish_ok]

theorem exec_tq_of_unset {iv : BitVec 4} {interval : Interval} {s : State} (hi : intervalOfIndex iv = some interval)
    (hl : lengthOf s.params s.mode interval = none) : exec (.tq iv) s = .refused .intervalUnset := by
  simp only [exec, execTq, hi, hl]

theorem exec_tqn (u : BitVec 24) (s : State) :
    exec (.tqn u) s = .next (respond .ok [.num 0x86, .num ((divisor s.params u.toNat).toNat % 256),
      .num ((divisor s.params u.toNat).toNat / 256)] s) := by
  simp only [exec, execTqn, byteValues_clkset, finish_ok]

/-- Settles O12: an interval has a length or is Z with its length unset. -/
theorem tqReturnsClockSet : Obligations.TqReturnsClockSet := by
  intro s
  refine ⟨fun iv interval ns hi hl => exec_tq ?_, fun hz => exec_tq_of_unset (interval := .z) rfl hz⟩
  rw [hi, Option.bind_some, hl]

/-- Settles O13: for each row and mode the index has a length, whose divisor is the row's. -/
theorem tqReturnsHardwareDivisors : Obligations.TqReturnsHardwareDivisors := by
  intro s hp row hrow
  have lookup : ((intervalOfIndex (BitVec.ofNat 4 row.1)).bind (lengthOf hardwareParams s.mode)).map
      (fun ns => (divisor hardwareParams ns).toNat) = some (match s.mode with | .std => row.2.1 | .od => row.2.2) := by
    revert row
    cases s.mode <;> decide
  obtain ⟨ns, hns, hd⟩ := Option.map_eq_some_iff.mp lookup
  rw [← hp] at hns hd
  exact ⟨_, hd, exec_tq hns⟩

/-- The divisor of this hardware: 30 MHz and 16 bits (00_scope.md R7). -/
theorem divisor_hardware (ns : Nat) :
    (divisor hardwareParams ns).toNat = if ns = 0 then 0 else ((3 * ns + 199) / 200 - 1) % 65536 := by
  by_cases hns : ns = 0
  · rw [if_pos hns, hns]
    rfl
  · have reduce : (30000000 * ns + 1999999999) / 2000000000 = (3 * ns + 199) / 200 := by omega
    rw [if_neg hns, ← reduce]
    exact divExact_toNat le_rfl 30000000 hns

/-- Settles O14: TQN answers the clock-set command of the divisor that `DIVISOR_ARITH` selects. -/
theorem tqnReturnsClockSet : Obligations.TqnReturnsClockSet := by
  intro s u
  refine ⟨(divisor s.params u.toNat).toNat, ?_, rfl, fun hp => hp ▸ divisor_hardware u.toNat, exec_tqn u s⟩
  unfold divisor
  cases s.params.divisorArith <;> rfl

/-! ## NOP and MODE (40_timing.md R104, R106) -/

theorem exec_nop (s : State) : exec .nop s = .next (respond .ok [] s) := rfl

theorem exec_mode_of_allowed {m : Mode} {s : State} (h : m = .std ∨ s.cfgOdSupported = true) :
    exec (.mode m) s = .next (respond .ok [] { s with mode := m }) := by
  have allowed : ¬(m = .od ∧ s.cfgOdSupported = false) := by
    rintro ⟨rfl, hod⟩
    simp [hod] at h
  rw [exec, execMode, if_neg allowed, finish_ok]

theorem exec_mode_od_of_unsupported {s : State} (h : s.cfgOdSupported = false) :
    exec (.mode .od) s = .next (respond .protocol [.num 7] s) := by
  rw [exec, execMode, if_pos ⟨rfl, h⟩]
  rfl

/-- Settles O17: NOP only answers, and MODE is allowed or it is not. -/
theorem nopAndModeAnswer : Obligations.NopAndModeAnswer :=
  fun s => ⟨exec_nop s, fun _ => exec_mode_of_allowed, exec_mode_od_of_unsupported⟩

end Sys2Proof.Machine
end

section
/-! PROOF. The register view that RDREG reads (10_state.md R38-R43). -/

namespace Sys2Proof.Machine

theorem exec_rdreg {r : BitVec 3} (reg : Reg) (s : State) (hr : regOfNumber r = some reg) :
    exec (.rdreg r) s = .next (respond .ok [.num (readReg reg s).toNat] s) := by
  simp only [exec, execRdreg, hr, finish_ok]

theorem mode_toBit_eq_decide (m : Mode) : m.toBit = decide (m = .od) := by cases m <;> rfl

theorem crcWidth_toBit_eq_decide (w : CrcWidth) : w.toBit = decide (w = .crc16) := by cases w <;> rfl

/-- The fields of STATUS (10_state.md R40). -/
theorem statusReg_fields (s : State) :
    (statusReg s).getLsbD 0 = s.collecting ∧ (statusReg s).extractLsb' 1 2 = s.busPhase.code ∧
    (statusReg s).getLsbD 3 = s.busSuspect ∧ (statusReg s).getLsbD 4 = s.transportDead ∧
    (statusReg s).extractLsb' 5 3 = 0#3 ∧ (statusReg s).extractLsb' 8 4 = s.lastStatus.code ∧
    (statusReg s).extractLsb' 12 4 = 0#4 ∧ ((statusReg s).extractLsb' 16 16).toNat = min s.pend.length 0xFFFF := by
  simp only [statusReg, BitVec.getLsbD_append, BitVec.extractLsb'_append_eq_ite]
  simp

/-- Settles O10: each register is its fields put side by side, and reading a field finds the part it lies in. -/
theorem rdregReturnsTheRegister : Obligations.RdregReturnsTheRegister := by
  intro s
  refine ⟨⟨configReg s, exec_rdreg .config s rfl, ?_⟩, ⟨modeReg s, exec_rdreg .mode s rfl, ?_⟩,
    ⟨statusReg s, exec_rdreg .status s rfl, ?_⟩, ⟨gpioReg s, exec_rdreg .gpio s rfl, ?_⟩,
    ⟨crcReg s, exec_rdreg .crc s rfl, ?_⟩, ⟨batchReg s, exec_rdreg .batch s rfl, ?_⟩⟩
  · simp only [configReg, BitVec.getLsbD_append, BitVec.extractLsb'_append_eq_ite]
    simp
  · simp only [modeReg, BitVec.getLsbD_append, BitVec.extractLsb'_append_eq_ite]
    simp [mode_toBit_eq_decide]
  · obtain ⟨hcollecting, hphase, hsuspect, hdead, hzero, hlast, hzero', hpend⟩ := statusReg_fields s
    exact ⟨hcollecting, hphase.trans (by cases s.busPhase <;> rfl), hsuspect, hdead, hzero,
      hlast.trans (by cases s.lastStatus <;> rfl), hzero', hpend⟩
  · simp only [gpioReg, BitVec.extractLsb'_append_eq_ite]
    simp
  · simp only [crcReg, BitVec.getLsbD_append, BitVec.extractLsb'_append_eq_ite]
    simp [crcWidth_toBit_eq_decide]
  · simp [batchReg]

end Sys2Proof.Machine
end

section
/-! PROOF. The elements of the time slots, in an open batch and in a reset (40_timing.md R102, 42_bitbyte.md R144-R150). -/

namespace Sys2Proof.Machine

/-! ## The tables of this hardware -/

/-- 40_timing.md R110: the divisors of this hardware's tables. -/
theorem divisor_hardwareTable (m : Mode) (T : IntervalTable) (hT : T = tableOf hardwareParams m) :
    ∀ row ∈ [(T.a, 89, 14), (T.b, 959, 112), (T.c, 899, 112), (T.d, 149, 37), (T.e, 134, 14), (T.f, 824, 104),
        (T.g, 0, 37), (T.h, 7199, 1049), (T.i, 1049, 127), (T.j, 6149, 599)],
      (divisor hardwareParams row.1).toNat = (match m with | .std => row.2.1 | .od => row.2.2) := by
  subst hT
  cases m <;> decide

/-! ## A bit or byte command in an open batch (41_batch.md R124) -/

theorem bitCommand_of_open {body : State → List Nat × State} {s : State} (hc : s.collecting = true)
    (hs : s.busSuspect = false) (hf : fitsBatch (body s).2 (body s).2.buf.length) :
    bitCommand body s = .ok ((body s).1.map .token) (body s).2 := by
  simp only [bitCommand, withBatch, hs, hc, Bool.false_and, if_true, Bool.false_eq_true, if_false, ifRoom_fits _ hf]

theorem exec_wbit_of_open {s : State} (b : Bool) (hc : s.collecting = true) (hs : s.busSuspect = false)
    (hf : fitsBatch s (s.buf ++ writeElems s b).length) :
    exec (.wbit b) s = .next (respond .ok [] { slotDone s (writeElems s b) with busPhase := .active }) := by
  have run := bitCommand_of_open (body := wbitBody b) hc hs (by rw [wbitBody_eq]; exact hf)
  rw [exec, execWbit, run, wbitBody_eq]
  rfl

theorem exec_rbit_of_open {s : State} (hc : s.collecting = true) (hs : s.busSuspect = false)
    (hf : fitsBatch s (s.buf ++ readElems s).length) :
    exec .rbit s = .next (respond .ok [.token s.pend.length]
      { slotDone s (readElems s) with pend := s.pend ++ [.bit (nsamp s.buf)], busPhase := .active }) := by
  have run := bitCommand_of_open (body := rbitBody) hc hs (by rw [rbitBody_eq]; exact hf)
  rw [exec, execRbit, run, rbitBody_eq]
  rfl

/-! ## RESET where the transport answers (42_bitbyte.md R149, R150) -/

/-- The implicit batch of a reset sequence: its elements, with the data pin released, and its pending read. -/
def resetBatch (s : State) : State :=
  { s with
    level := setPin s.level s.cfgDataPin true
    dir := setPin s.dir s.cfgDataPin false
    collecting := true
    buf := resetElems s
    pend := [.rst 0] }

theorem resetSlot_of_idle {s : State} (hi : Idle s) :
    resetSlot (pendRead .rst { s with collecting := true }).2 = resetBatch s := by
  rw [resetSlot_eq]
  simp [resetBatch, slotDone, pendRead, hi.bufEmpty, hi.pendEmpty, nsamp, resetElems, lowElem, relElem, delayIn]

/-- A device is present unless both samples are 1 (42_bitbyte.md R149). -/
theorem presence_of_samples (x y : Bool) : decide (resolve [x, y] (.rst 0) = 1) = !(x && y) := by
  cases x <;> cases y <;> rfl

/-- One reset sequence: its write, its read of two samples, and the presence they tell (42_bitbyte.md R149). -/
theorem resetOnce_of_answers {s : State} {ws : List WriteAnswer} {rs : List ReadKind} {x y : Bool} {rest : List Bool}
    (hi : Idle s) (hf : fitsBatch s 7) (hw : s.writeAnswers = .ok :: ws) (hr : s.readAnswers = .bits :: rs)
    (hs : s.samples = x :: y :: rest) :
    resetOnce s = .ok (!(x && y)) { s with
      level := setPin s.level s.cfgDataPin true
      dir := setPin s.dir s.cfgDataPin false
      busSuspect := false
      trace := s.trace ++ [.txWrite (resetElems s), .txRead 2 (.bits [x, y])]
      writeAnswers := ws
      readAnswers := rs
      samples := rest } := by
  have run := flush_read (resetBatch s) ws rs [x, y] rest (List.cons_ne_nil _ _)
    (by rw [resetBatch, nsamp_resetElems]; decide) rfl hw hr hs
  rw [resetOnce, resetSlot_of_idle hi, ifRoom_fits flush hf, run]
  simp only [Res.andThen_ok, resetBatch, nsamp_resetElems, hi.idle, hi.bufEmpty, hi.pendEmpty]
  exact congrArg (Res.ok · _) (presence_of_samples x y)

theorem resetBody_of_presence {s t : State} (h : resetOnce s = .ok true t) :
    resetBody s = .ok true (setPresence true t) := by
  simp [resetBody, h]

theorem exec_reset_of_presence {s t : State} (hi : Idle s) (h : resetOnce s = .ok true t) :
    exec .reset s = .next (respond .ok [.num 1] (setPresence true t)) := by
  simp [exec, execReset, resetCommand, hi.idle, hi.alive, resetBody_of_presence h]

/-- Settles O25: the elements are those of the slots' definitions, with the delays of the table in force; an open batch
gets them appended, and a reset that a device answers writes them once. -/
theorem slotsFollowTheTables : Obligations.SlotsFollowTheTables := by
  refine ⟨fun v p i b => ?_, ?_⟩
  · rw [getLsbD_setPin]
    exact if_congr BitVec.toNat_inj rfl rfl
  rintro s T low rel wait hT rfl rfl rfl
  obtain rfl : T = tableOf s.params s.mode := hT.trans (by cases s.mode <;> rfl)
  refine ⟨⟨rfl, rfl, rfl, rfl⟩, fun hc hs hf => ⟨?_, ?_, ?_⟩, fun ws rs rest hi hf hw hr hs => ?_, fun hp => ?_⟩
  · exact ⟨_, exec_wbit_of_open true hc hs (overCapacity_mono (by simp [writeElems]) hf), rfl⟩
  · exact ⟨_, exec_wbit_of_open false hc hs (overCapacity_mono (by simp [writeElems]) hf), rfl⟩
  · exact ⟨_, exec_rbit_of_open hc hs (overCapacity_mono (by simp [readElems]) hf), rfl⟩
  · exact ⟨_, exec_reset_of_presence hi (resetOnce_of_answers hi hf hw hr hs), rfl⟩
  · rw [hp]
    exact divisor_hardwareTable s.mode _ rfl

end Sys2Proof.Machine
end

section
/-! PROOF. The frame of the commands that touch no transport and no batch (40_timing.md R103-R107, 43_crc.md). -/

namespace Sys2Proof.Machine

/-- A quiet command writes at most the mode and the CRC unit, each by its own commands only. -/
theorem QuietRun.fields {s u : State} {i : Instr} (h : QuietRun s i u) :
    ∃ mode width acc, u = { s with mode := mode, crcWidth := width, crcAcc := acc } ∧
      ((∀ w, i ≠ .crci w) → width = s.crcWidth) ∧
      ((∀ w, i ≠ .crci w) → (∀ d, i ≠ .crcb d) → acc = s.crcAcc) ∧
      ((∀ m, i ≠ .mode m) → mode = s.mode) := by
  cases h with
  | same => exact ⟨_, _, _, rfl, fun _ => rfl, fun _ _ => rfl, fun _ => rfl⟩
  | mode m => exact ⟨_, _, _, rfl, fun _ => rfl, fun _ _ => rfl, fun hm => absurd rfl (hm m)⟩
  | crci w => exact ⟨_, _, _, rfl, fun hw => absurd rfl (hw w), fun hw => absurd rfl (hw w), fun _ => rfl⟩
  | crcb d => exact ⟨_, _, _, rfl, fun _ => rfl, fun _ hd => absurd rfl (hd d), fun _ => rfl⟩

/-- Settles O57: what a quiet command does before it answers leaves every field that it does not name. -/
theorem quietCommandsFrame : Obligations.QuietCommandsFrame := by
  intro s t i hi h
  have quiet : busCommand i = none := by
    rcases hi with hi | ⟨iv, rfl⟩ | ⟨u, rfl⟩ | ⟨m, rfl⟩ | ⟨r, rfl⟩ | ⟨w, rfl⟩ | ⟨d, rfl⟩
    · simp only [List.mem_cons, List.not_mem_nil, or_false] at hi
      rcases hi with rfl | rfl | rfl <;> rfl
    all_goals rfl
  obtain ⟨u, status, values, rfl, hu, -⟩ := exec_quiet_next quiet h
  obtain ⟨mode, width, acc, rfl, hwidth, hacc, hmode⟩ := hu.fields
  exact ⟨rfl, rfl, rfl, rfl, rfl, rfl, rfl, rfl, rfl, rfl, rfl, rfl, rfl, rfl, rfl, rfl, rfl, rfl, hwidth, hacc, hmode⟩

end Sys2Proof.Machine
end

section
/-! PROOF. The command batch: BEGIN, FLUSH and what a flush gives the pending reads (41_batch.md R123, R126, R127). -/

namespace Sys2Proof.Machine

/-! ## BEGIN (41_batch.md R126) -/

theorem exec_beginBatch_of_idle {s : State} (hc : s.collecting = false) :
    exec .beginBatch s = .next (respond .ok [] { s with collecting := true }) := by
  simp [exec, execBeginBatch, hc]

theorem exec_beginBatch_of_open {s : State} (hc : s.collecting = true) :
    exec .beginBatch s = .next (respond .protocol [.num 1] s) := by
  simp [exec, execBeginBatch, hc, protocolViolation]

/-- Settles O18: a batch is collecting or it is not. -/
theorem beginOpensBatch : Obligations.BeginOpensBatch :=
  fun _ => ⟨exec_beginBatch_of_idle, exec_beginBatch_of_open⟩

/-! ## FLUSH (41_batch.md R127) -/

theorem exec_flush_of_idle {s : State} (hc : s.collecting = false) :
    exec .flush s = .next (respond .protocol [.num 2] s) := by
  simp [exec, execFlush, flushCommand, hc, protocolViolation]

theorem exec_flush_of_dead {s : State} (hc : s.collecting = true) (hd : s.transportDead = true) :
    exec .flush s = .next (respond .usb [.num 0] (clearBatch s)) := by
  simp [exec, execFlush, flushCommand, hc, hd, usbError]

/-- FLUSH of an open batch on a live transport answers what its `Flush()` gives. -/
theorem exec_flush_of_open {s : State} (hc : s.collecting = true) (hd : s.transportDead = false) :
    exec .flush s = finish ((flush s).andThen fun vals t => .ok (vals.map .num) t) := by
  simp [exec, execFlush, flushCommand, hc, hd]

/-- Settles O19: the three ways of FLUSH past the transport. -/
theorem flushWithoutTransportCall : Obligations.FlushWithoutTransportCall := by
  refine fun s => ⟨exec_flush_of_idle, exec_flush_of_dead, fun hc hd hb => ?_⟩
  rw [exec_flush_of_open hc hd, flush_empty s hb]
  simp [respond, hb]

/-- Settles O20: the answers decide how `Flush()` runs, and FLUSH returns its values. -/
theorem flushReturnsPendingValues : Obligations.FlushReturnsPendingValues := by
  intro s ws hc hd hb hw
  rw [exec_flush_of_open hc hd]
  refine ⟨fun rs bs rest hn hl hr hs => ?_, fun hn => ?_⟩
  · rw [flush_read s ws rs bs rest hb hn.ne' hl hw hr hs]
    simp [respond]
  · rw [flush_write s ws hb hn hw]
    simp [respond]

/-- Settles O22: `Flush()` clears the batch before its calls, and a failed call sets its flag. -/
theorem flushFailureLosesBatch : Obligations.FlushFailureLosesBatch := by
  intro s ws hc hd hb
  rw [exec_flush_of_open hc hd]
  refine ⟨fun hw => ?_, fun rs hw hn => ⟨fun hr => ?_, fun hr => ?_⟩⟩
  · rw [flush_writeFails s ws hb hw]
    rfl
  · rw [flush_readFails s ws rs hb hn.ne' hw hr]
    rfl
  · rw [flush_timesOut s ws rs hb hn.ne' hw hr]
    rfl

/-! ## The values of the pending reads (41_batch.md R123) -/

/-- The first n bits of a number are the number modulo 2^n (20_memory.md R57). -/
theorem bitsToNat_testBit (n x : Nat) : bitsToNat ((List.range n).map x.testBit) = x % 2 ^ n := by
  induction n generalizing x with
  | zero => simp [bitsToNat, Nat.mod_one]
  | succ n ih =>
    have tail : x.testBit ∘ Nat.succ = (x / 2).testBit := funext fun i => Nat.testBit_succ x i
    rw [List.range_succ_eq_map, List.map_cons, List.map_map, tail, bitsToNat, ih, Nat.pow_succ', Nat.mod_mul,
      Nat.toNat_testBit, Nat.pow_zero, Nat.div_one]

theorem bitsToNat_getLsbD (d : Byte) : bitsToNat ((List.range 8).map d.getLsbD) = d.toNat :=
  (bitsToNat_testBit 8 d.toNat).trans (Nat.mod_eq_of_lt d.isLt)

/-- The first sample of slot j of a byte (42_bitbyte.md R155). -/
theorem getD_slotSamples (d x : Byte) (rest : List Bool) {j : Nat} (hj : j < 8) :
    (((List.range 8).map fun j => [d.getLsbD j, x.getLsbD j]).flatten ++ rest).getD (2 * j) false = d.getLsbD j := by
  interval_cases j <;> rfl

/-- Settles O21: a read's samples stand behind those before them; of a byte, each even sample is a bit. -/
theorem resolveTakesFirstSamples : Obligations.ResolveTakesFirstSamples := by
  intro before after
  have skip (xs : List Bool) (j : Nat) : (before ++ xs ++ after).getD (before.length + j) false
      = (xs ++ after).getD j false := by
    rw [List.append_assoc, List.getD_append_right _ _ _ _ (Nat.le_add_right _ _), Nat.add_sub_cancel_left]
  refine ⟨fun a b => ?_, fun a b => ?_, fun d x => ?_⟩
  · exact congrArg Bool.toNat (skip [a, b] 0)
  · have first : (before ++ [a, b] ++ after).getD before.length false = a := skip [a, b] 0
    have second : (before ++ [a, b] ++ after).getD (before.length + 1) false = b := skip [a, b] 1
    rw [resolve, first, second]
    simp only [Bool.and_eq_true]
  · have bits : ((List.range 8).map fun j => (before ++ ((List.range 8).map fun j =>
        [d.getLsbD j, x.getLsbD j]).flatten ++ after).getD (before.length + 2 * j) false) =
        (List.range 8).map d.getLsbD :=
      List.map_congr_left fun j hj => (skip _ _).trans (getD_slotSamples d x after (List.mem_range.mp hj))
    rw [resolve, bits, bitsToNat_getLsbD]

end Sys2Proof.Machine
end

section
/-! PROOF. The four commands that emit time slots, said once for all of them: inside an open batch and outside one
(41_batch.md R124, R125, 42_bitbyte.md R152-R158). -/

namespace Sys2Proof.Machine

/-! ## What a slot command appends -/

/-- The body that a slot command runs in its batch (42_bitbyte.md R152-R158). -/
def SlotCommand.body : SlotCommand → State → List Nat × State
  | .wbit b => wbitBody b
  | .rbit => rbitBody
  | .wbyte d => wbyteBody d
  | .rbyte => rbyteBody

/-- The state after the body of a slot command: its elements and its pending read are appended, the data pin is released
and the bus is active. -/
def SlotCommand.done (c : SlotCommand) (s : State) : State :=
  { slotDone s (c.elems s) with pend := s.pend ++ c.pending (nsamp s.buf), busPhase := .active }

theorem SlotCommand.body_eq (c : SlotCommand) (s : State) :
    c.body s = ((c.pending (nsamp s.buf)).map fun _ => s.pend.length, c.done s) := by
  cases c with
  | wbit b => simp [body, done, elems, pending, wbitBody_eq, slotDone]
  | rbit => exact rbitBody_eq s
  | wbyte d => simp [body, done, elems, pending, wbyteBody_eq, slotDone]
  | rbyte => exact rbyteBody_eq s

theorem SlotCommand.busCommand_instr (c : SlotCommand) : busCommand c.instr = some (bitCommand c.body) := by
  cases c <;> rfl

theorem SlotCommand.exec_instr (c : SlotCommand) (s : State) : exec c.instr s = finish (bitCommand c.body s) :=
  exec_busCommand c.busCommand_instr s

/-! ### The table of 41_batch.md R125 -/

theorem elemKinds_append (xs ys : List Elem) :
    elemKinds (xs ++ ys) = elemKinds xs + elemKinds ys := by
  induction xs with
  | nil => simp [elemKinds]
  | cons e es ih => cases e <;> simp [elemKinds, ih, Prod.ext_iff, Nat.add_right_comm]

theorem elemKinds_writeElems (s : State) (b : Bool) : elemKinds (writeElems s b) = (2, 2, 0) := by
  cases b <;> rfl

theorem length_writeElems (s : State) (b : Bool) : (writeElems s b).length = 4 := by
  cases b <;> rfl

theorem SlotCommand.elemKinds_elems (c : SlotCommand) (s : State) : elemKinds (c.elems s) = c.counts := by
  cases c with
  | wbit b => exact elemKinds_writeElems s b
  | wbyte d => simp [elems, counts, writeByteElems, List.range_succ, elemKinds_append, elemKinds_writeElems]
  | rbit | rbyte => rfl

theorem SlotCommand.length_elems (c : SlotCommand) (s : State) : (c.elems s).length = c.total := by
  cases c with
  | wbit b => exact length_writeElems s b
  | wbyte d => simp [elems, total, writeByteElems, List.range_succ, length_writeElems]
  | rbit | rbyte => rfl

theorem SlotCommand.nsamp_elems (c : SlotCommand) (s : State) : nsamp (c.elems s) = c.sampleCount := by
  cases c with
  | wbit b => exact nsamp_writeElems s b
  | wbyte d => exact nsamp_writeByteElems s d
  | rbit | rbyte => rfl

theorem SlotCommand.elems_ne_nil (c : SlotCommand) (s : State) : c.elems s ≠ [] := by
  have pos : 0 < (c.elems s).length := by
    rw [c.length_elems]
    cases c <;> simp [total]
  exact List.ne_nil_of_length_pos pos

theorem SlotCommand.length_done_buf (c : SlotCommand) (s : State) :
    (c.done s).buf.length = s.buf.length + c.total := by
  simp [done, slotDone, c.length_elems]

theorem SlotCommand.nsamp_done_buf (c : SlotCommand) (s : State) :
    nsamp (c.done s).buf = nsamp s.buf + c.sampleCount := by
  simp [done, slotDone, c.nsamp_elems]

/-! ## Inside an open batch (41_batch.md R124) -/

theorem SlotCommand.exec_of_open {c : SlotCommand} {s : State} (hc : s.collecting = true) (hs : s.busSuspect = false)
    (hf : fitsBatch s (s.buf.length + c.total)) :
    exec c.instr s =
      .next (respond .ok ((c.pending (nsamp s.buf)).map fun _ => .token s.pend.length) (c.done s)) := by
  have fits : fitsBatch (c.body s).2 (c.body s).2.buf.length := by
    rw [c.body_eq, c.length_done_buf]
    exact hf
  rw [c.exec_instr, bitCommand_of_open hc hs fits, c.body_eq, finish_ok, List.map_map]
  rfl

theorem SlotCommand.exec_of_full_open {c : SlotCommand} {s : State} (hc : s.collecting = true)
    (hs : s.busSuspect = false) (hf : ¬fitsBatch s (s.buf.length + c.total)) :
    exec c.instr s = .refused .batchFull := by
  have full : ¬fitsBatch (c.done s) (c.done s).buf.length := by
    rw [c.length_done_buf]
    exact hf
  simp only [c.exec_instr, bitCommand, withBatch, hs, hc, Bool.false_and, Bool.false_eq_true, if_false, if_true,
    c.body_eq, ifRoom_full _ full, finish_stop]

/-- Settles O23: the body's elements fit into the open batch or they do not. -/
theorem openBatchCollects : Obligations.OpenBatchCollects :=
  fun _ _ hc hs => ⟨SlotCommand.exec_of_open hc hs, SlotCommand.exec_of_full_open hc hs⟩

/-- Settles O24: a slot command appends its elements, and a reset that a device answers writes its seven. -/
theorem elementCounts : Obligations.ElementCounts := by
  refine ⟨fun s c hc hs hf => ?_, fun s ws rs rest hi hf hw hr hs => ?_⟩
  · exact ⟨_, c.elems s, SlotCommand.exec_of_open hc hs hf, rfl, c.elemKinds_elems s, c.length_elems s,
      c.nsamp_done_buf s⟩
  · exact ⟨_, resetElems s, exec_reset_of_presence hi (resetOnce_of_answers hi hf hw hr hs), rfl, rfl, rfl⟩

/-! ## Outside a batch (41_batch.md R124) -/

/-- The implicit batch of a slot command: its elements, with the data pin released, and its pending read. -/
def SlotCommand.batch (c : SlotCommand) (s : State) : State :=
  { s with
    level := setPin s.level s.cfgDataPin true
    dir := setPin s.dir s.cfgDataPin false
    busPhase := .active
    collecting := true
    buf := c.elems s
    pend := c.pending 0 }

theorem SlotCommand.body_of_empty {c : SlotCommand} {s : State} (hb : s.buf = []) (hp : s.pend = []) :
    (c.body { s with collecting := true }).2 = c.batch s := by
  have same : c.elems { s with collecting := true } = c.elems s := by cases c <;> rfl
  rw [c.body_eq, done, same]
  simp [batch, slotDone, hb, hp, nsamp]

theorem SlotCommand.exec_of_dead {c : SlotCommand} {s : State} (hc : s.collecting = false)
    (hd : s.transportDead = true) : exec c.instr s = .next (respond .usb [.num 0] s) := by
  simp [c.exec_instr, bitCommand, withBatch, implicitBatch, hc, hd, usbError]

theorem SlotCommand.fits_batch_iff {c : SlotCommand} {s : State} :
    fitsBatch (c.batch s) (c.batch s).buf.length ↔ fitsBatch s c.total := by
  rw [batch, c.length_elems]
  rfl

section
variable {c : SlotCommand} {s : State} (hc : s.collecting = false) (hb : s.buf = []) (hp : s.pend = [])
  (hd : s.transportDead = false) (hs : s.busSuspect = false)
include hc hb hp hd hs

/-- Outside a batch, on a live transport, a slot command flushes its implicit batch where it fits. -/
theorem SlotCommand.exec_of_alive :
    exec c.instr s = finish ((ifRoom (c.batch s) flush).andThen fun vals t => .ok (vals.map .num) t) := by
  simp [← body_of_empty hb hp, c.exec_instr, bitCommand, withBatch, implicitBatch, hc, hd, hs]

theorem SlotCommand.exec_of_full (hf : ¬fitsBatch s c.total) : exec c.instr s = .refused .batchFull := by
  rw [exec_of_alive hc hb hp hd hs, ifRoom_full flush (mt fits_batch_iff.mp hf)]
  rfl

theorem SlotCommand.exec_of_room (hf : fitsBatch s c.total) :
    exec c.instr s = finish ((flush (c.batch s)).andThen fun vals t => .ok (vals.map .num) t) := by
  rw [exec_of_alive hc hb hp hd hs, ifRoom_fits flush (fits_batch_iff.mpr hf)]

end

/-- Settles O29: a dead transport, a full batch, and the failing calls of the implicit batch's `Flush()`. -/
theorem unbatchedSlotFailures : Obligations.UnbatchedSlotFailures := by
  intro s c hc hb hp
  refine ⟨SlotCommand.exec_of_dead hc, SlotCommand.exec_of_full hc hb hp, fun hd hs hf ws => ?_⟩
  rw [SlotCommand.exec_of_room hc hb hp hd hs hf]
  have nonempty : (c.batch s).buf ≠ [] := c.elems_ne_nil s
  have samples : nsamp (c.batch s).buf = c.sampleCount := c.nsamp_elems s
  refine ⟨fun hw => ?_, fun rs hw hn => ?_⟩
  · rw [flush_writeFails (c.batch s) ws nonempty hw]
    simp [respond, usbError, SlotCommand.batch, hc, hb, hp]
  · have reads : nsamp (c.batch s).buf ≠ 0 := by rw [samples]; exact hn.ne'
    refine ⟨fun hr => ?_, fun hr => ?_⟩
    · rw [flush_readFails (c.batch s) ws rs nonempty reads hw hr, samples]
      simp [respond, usbError, SlotCommand.batch, hc, hb, hp]
    · rw [flush_timesOut (c.batch s) ws rs nonempty reads hw hr, samples]
      simp [respond, timeoutError, SlotCommand.batch, hc, hb, hp]

end Sys2Proof.Machine
end

section
/-! PROOF. Implicit batches close, and buffered elements are written (41_batch.md R124, R126, R127, 20_memory.md R69). -/

namespace Sys2Proof.Machine

/-! ## What becomes of the buffered elements -/

/-- What the command `i` may have done with the elements that were buffered in `s` when it is in `t`: there were none, or
it kept them in the buffer with no transport call made, wrote them first in its first call, or lost them as FLUSH and
PULLUP do on a dead transport (41_batch.md R127, 42_bitbyte.md R160; log entry 19). -/
inductive BufferRun (i : Instr) (s t : State) : Prop
  | empty (buf : s.buf = [])
  | kept (buf : s.buf <+: t.buf) (trace : t.trace = s.trace)
  | written (es : List Elem) (trace : s.trace ++ [.txWrite (s.buf ++ es)] <+: t.trace)
  | lost (dead : s.transportDead = true) (command : i = .flush ∨ ∃ u, i = .pullup u)

theorem BufferRun.refl (i : Instr) (s : State) : BufferRun i s s := .kept (List.prefix_refl _) rfl

/-- Elements are appended and no call is made. -/
theorem BufferRun.append {i : Instr} {s t u : State} (h : BufferRun i s t) (hb : t.buf <+: u.buf)
    (ht : u.trace = t.trace) : BufferRun i s u := by
  cases h with
  | empty buf => exact .empty buf
  | kept buf trace => exact .kept (buf.trans hb) (ht.trans trace)
  | written es trace => exact .written es (ht ▸ trace)
  | lost dead command => exact .lost dead command

/-- What a command may have done with the batch: one that was not open is not left open, and the buffer is accounted
for. -/
structure BatchRun (i : Instr) (s t : State) : Prop where
  closed : s.collecting = false → t.collecting = false
  buffer : BufferRun i s t

theorem BatchRun.refl (i : Instr) (s : State) : BatchRun i s s := ⟨id, .refl i s⟩

/-- An update of other fields than the batch's and the trace. -/
theorem BatchRun.of_same {i : Instr} {s t u : State} (h : BatchRun i s t) (hc : u.collecting = t.collecting)
    (hb : u.buf = t.buf) (ht : u.trace = t.trace) : BatchRun i s u :=
  ⟨fun hs => hc.trans (h.closed hs), h.buffer.append (hb ▸ List.prefix_refl _) ht⟩

/-! ## `Flush()` (41_batch.md R123) -/

/-- `Flush()` raises only UsbError and TimeoutError, so what holds of its state is what it ends in. -/
theorem flush_ends_of_state {I : State → Prop} {s : State} (h : I (flush s).state) : (flush s).Ends I := by
  rcases flush_ends s with ⟨_, _, hf, -⟩ | ⟨_, _, hf, -⟩ | ⟨-, _, _, hf, -⟩ <;> rw [hf] at h ⊢
  · exact h
  · exact ⟨h, by simp⟩
  · exact ⟨h, by simp⟩

/-- A buffer that is not empty is written whole in the first call. -/
theorem flush_writes_buffer {s : State} (hb : s.buf ≠ []) :
    s.trace ++ [.txWrite s.buf] <+: (flush s).state.trace := by
  obtain ⟨answers, draws, hw⟩ := txWrite_cases s.buf (clearBatch s)
  have write {a t} (ht : txWrite s.buf (clearBatch s) = (a, t)) : s.trace ++ [.txWrite s.buf] = t.trace := by
    rw [ht] at hw
    exact (congrArg State.trace hw).symm
  have read {n t o u} (hu : txRead n t = (o, u)) : t.trace <+: u.trace := by
    have keeps := txRead_keeps n t
    rw [hu] at keeps
    exact keeps.trace
  rcases flush_cases s with ⟨he, -⟩ | ⟨-, t, ht, hf⟩ | ⟨-, -, t, ht, hf⟩ | ⟨-, -, t, u, ht, hu, hf⟩ |
    ⟨-, -, t, u, ht, hu, hf⟩ | ⟨-, -, t, u, bs, ht, hu, hf⟩
  · exact absurd he hb
  all_goals rw [hf, write ht]
  · exact List.prefix_refl _
  · exact List.prefix_refl _
  all_goals exact (read hu :)

theorem BufferRun.flush {i : Instr} {s t : State} (h : BufferRun i s t) : BufferRun i s (flush t).state := by
  cases h with
  | empty buf => exact .empty buf
  | kept buf trace =>
    by_cases hb : t.buf = []
    · exact .empty (List.prefix_nil.mp (hb ▸ buf))
    · obtain ⟨es, he⟩ := buf
      refine .written es ?_
      rw [he, ← trace]
      exact flush_writes_buffer hb
  | written es trace => exact .written es (trace.trans (flush_keeps t).trace)
  | lost dead command => exact .lost dead command

/-- `Flush()` leaves the batch closed and its buffer empty. -/
theorem flush_batchRun {i : Instr} {s t : State} (h : BufferRun i s t) :
    (flush t).Ends fun u => BatchRun i s u ∧ u.buf = [] := by
  obtain ⟨hc, hb, -⟩ := flush_idle t
  exact flush_ends_of_state ⟨⟨fun _ => hc, h.flush⟩, hb⟩

theorem ifRoom_flush_batchRun {i : Instr} {s t : State} (h : BufferRun i s t) :
    (ifRoom t flush).Ends fun u => BatchRun i s u ∧ u.buf = [] :=
  .ifRoom fun _ => flush_batchRun h

theorem flushCommand_batchRun (s : State) : (flushCommand s).Ends (BatchRun .flush s) := by
  unfold flushCommand
  split
  · exact ⟨.refl _ s, by simp⟩
  · split
    · next hd => exact ⟨⟨fun _ => rfl, .lost hd (.inl rfl)⟩, by simp⟩
    · have flushed := (flush_batchRun (.refl .flush s)).mono fun _ hu => hu.1
      exact flushed.andThen fun _ _ => id

/-! ## Time slots -/

theorem BufferRun.body {i : Instr} {s t : State} (h : BufferRun i s t) (c : SlotCommand) :
    BufferRun i s (c.body t).2 := by
  rw [c.body_eq]
  exact h.append (List.prefix_append _ _) rfl

theorem implicitBatch_batchRun {i : Instr} {s t : State} (h : BatchRun i s t) (c : SlotCommand) :
    (implicitBatch c.body t).Ends (BatchRun i s) := by
  unfold implicitBatch
  split
  · exact ⟨h, by simp⟩
  · have opened : BufferRun i s { t with collecting := true } := h.buffer.append (List.prefix_refl _) rfl
    exact (ifRoom_flush_batchRun (opened.body c)).mono fun _ hu => hu.1

theorem bitCommand_batchRun (i : Instr) (c : SlotCommand) (s : State) :
    (bitCommand c.body s).Ends (BatchRun i s) := by
  unfold bitCommand
  split
  · trivial
  · unfold withBatch
    split
    · next hc =>
      exact .ifRoom fun _ => ⟨fun h => absurd (hc.symm.trans h) (by decide), (BufferRun.refl i s).body c⟩
    · exact (implicitBatch_batchRun (.refl i s) c).andThen fun _ _ => id

theorem resetOnce_batchRun {i : Instr} {s t : State} (h : BatchRun i s t) : (resetOnce t).Ends (BatchRun i s) := by
  have slot : BufferRun i s (resetSlot (pendRead .rst { t with collecting := true }).2) := by
    rw [resetSlot_eq]
    exact h.buffer.append (List.prefix_append _ _) rfl
  exact ((ifRoom_flush_batchRun slot).mono fun _ hu => hu.1).andThen fun _ _ hu => hu.of_same rfl rfl rfl

theorem resetBody_batchRun {i : Instr} {s t : State} (h : BatchRun i s t) : (resetBody t).Ends (BatchRun i s) := by
  refine (resetOnce_batchRun h).andThen fun p u hu => ?_
  split
  · have retry := resetOnce_batchRun (hu.of_same (u := { u with mode := .std }) rfl rfl rfl)
    exact retry.andThen fun _ _ hv => hv.of_same rfl rfl rfl
  · exact hu.of_same rfl rfl rfl

theorem resetCommand_batchRun (s : State) : (resetCommand s).Ends (BatchRun .reset s) := by
  unfold resetCommand
  split
  · exact ⟨.refl _ s, by simp⟩
  · split
    · exact ⟨.refl _ s, by simp⟩
    · exact (resetBody_batchRun (.refl _ s)).andThen fun _ _ => id

/-! ## SEARCH -/

/-- A property that resets and slots in implicit batches keep. SEARCH does nothing else (44_search.md R190, R191). -/
structure KeptBySlots (I : State → Prop) : Prop where
  reset : ∀ {s}, I s → (resetBody s).Ends I
  slots : ∀ {s}, I s → ∀ c : SlotCommand, (implicitBatch c.body s).Ends I

section
variable {I : State → Prop} (hI : KeptBySlots I)
include hI

theorem KeptBySlots.pollBit {s : State} (h : I s) : (pollBit s).Ends I :=
  (hI.slots h .rbit).andThen fun _ _ => id

theorem KeptBySlots.searchLevels (P : List Bool) (n : Nat) (cur : List Bool) (stack : List (List Bool)) {s : State}
    (h : I s) : (searchLevels P n cur stack s).Ends I := by
  induction n generalizing cur stack s with
  | zero => exact h
  | succ n ih =>
    refine (hI.pollBit h).andThen fun a t ht => (hI.pollBit ht).andThen fun c u hu => ?_
    split
    · exact ⟨hu, by simp⟩
    · exact hu
    · next b _ => exact (hI.slots hu (.wbit b)).andThen fun _ _ hv => ih _ _ hv
    · exact (hI.slots hu (.wbit false)).andThen fun _ _ hv => ih _ _ hv

theorem KeptBySlots.searchPass (P : List Bool) (stack : List (List Bool)) {s : State} (h : I s) :
    (searchPass P stack s).Ends I := by
  refine (hI.reset h).andThen fun p t ht => ?_
  split
  · exact ht
  · refine (hI.slots ht (.wbyte _)).andThen fun _ u hu =>
      (hI.searchLevels P _ [] stack hu).andThen fun out v hv => ?_
    split
    · exact hv
    · unfold checkCode
      split
      · exact ⟨hv, by simp⟩
      · exact hv

theorem KeptBySlots.searchLoop (fuel : Nat) (stack : List (List Bool)) (results : List (List Byte)) {s : State}
    (h : I s) : (searchLoop fuel stack results s).Ends I := by
  induction fuel generalizing stack results s with
  | zero => exact h
  | succ fuel ih =>
    cases stack with
    | nil => exact h
    | cons P stack =>
      refine (hI.searchPass P stack h).andThen fun out t ht => ?_
      split
      · exact ih _ _ ht
      · split
        · trivial
        · exact ih _ _ ht

theorem KeptBySlots.searchCommand {s : State} (h : I s) : (searchCommand s).Ends I := by
  unfold Machine.searchCommand
  split
  · exact ⟨h, by simp⟩
  · split
    · exact ⟨h, by simp⟩
    · exact (hI.searchLoop _ _ _ h).andThen fun _ _ => id

end

theorem batchRun_keptBySlots (i : Instr) (s : State) : KeptBySlots (BatchRun i s) :=
  ⟨resetBody_batchRun, implicitBatch_batchRun⟩

/-! ## PULLUP -/

theorem BufferRun.hostSleep {i : Instr} {s t : State} (h : BufferRun i s t) (hb : t.buf = []) (us : Nat) :
    BufferRun i s (hostSleep us t) := by
  cases h with
  | empty buf => exact .empty buf
  | kept buf trace => exact .empty (List.prefix_nil.mp (hb ▸ buf))
  | written es trace => exact .written es (trace.trans (List.prefix_append _ _))
  | lost dead command => exact .lost dead command

theorem pullupWait_batchRun (i : Instr) (us : Nat) (s : State) :
    (pullupWait us s).Ends fun t => BatchRun i s t ∧ t.buf = [] := by
  unfold pullupWait
  split
  · next q _ =>
    have raised : BufferRun i s (setPullup q true s) := (BufferRun.refl i s).append (List.prefix_append _ _) rfl
    refine (ifRoom_flush_batchRun raised).andThen fun _ t ⟨ht, hb⟩ => ifRoom_flush_batchRun ?_
    exact (ht.buffer.hostSleep hb us).append (List.prefix_append _ _) rfl
  · refine (flush_batchRun (.refl i s)).andThen fun _ t ⟨ht, hb⟩ => ?_
    exact ⟨⟨ht.closed, ht.buffer.hostSleep hb us⟩, hb⟩

theorem pullupRead_batchRun {i : Instr} {s t : State} (h : BatchRun i s t) : (pullupRead t).Ends (BatchRun i s) := by
  have opened : BufferRun i s { t with collecting := true } := h.buffer.append (List.prefix_refl _) rfl
  exact ((ifRoom_flush_batchRun (opened.body .rbyte)).mono fun _ hu => hu.1).andThen fun _ _ => id

theorem pullupCommand_batchRun (u : BitVec 24) (us : Nat) (s : State) :
    (pullupCommand us s).Ends (BatchRun (.pullup u) s) := by
  unfold pullupCommand
  split
  · exact ⟨.refl _ s, by simp⟩
  · split
    · exact ⟨.refl _ s, by simp⟩
    · split
      · next hd => exact ⟨⟨fun _ => rfl, .lost hd (.inr ⟨u, rfl⟩)⟩, by simp⟩
      · split
        · trivial
        · have waited := (pullupWait_batchRun (.pullup u) us s).mono fun _ ht => ht.1
          exact waited.andThen fun _ _ => pullupRead_batchRun

/-! ## Every command -/

/-- Every command of the bus accounts for the batch; BEGIN only opens it. -/
theorem busCommand_batchRun {i : Instr} {c : State → Res (List Value)} (hi : i ≠ .beginBatch)
    (hc : busCommand i = some c) (s : State) : (c s).Ends (BatchRun i s) := by
  cases i <;> cases hc
  case beginBatch => exact absurd rfl hi
  case flush => exact flushCommand_batchRun s
  case reset => exact resetCommand_batchRun s
  case wbit b => exact bitCommand_batchRun _ (.wbit b) s
  case rbit => exact bitCommand_batchRun _ .rbit s
  case wbyte d => exact bitCommand_batchRun _ (.wbyte d) s
  case rbyte => exact bitCommand_batchRun _ .rbyte s
  case pullup u => exact pullupCommand_batchRun u _ s
  case search => exact (batchRun_keptBySlots .search s).searchCommand (.refl _ s)

theorem exec_batchRun {i : Instr} {s t : State} (hi : i ≠ .beginBatch) (h : exec i s = .next t) : BatchRun i s t := by
  cases hc : busCommand i with
  | none =>
    obtain ⟨u, status, values, rfl, hu, -⟩ := exec_quiet_next hc h
    obtain ⟨mode, width, acc, rfl, -⟩ := hu.fields
    exact (BatchRun.refl i s).of_same rfl rfl rfl
  | some c =>
    obtain ⟨u, status, values, rfl, hu, -⟩ := (busCommand_batchRun hi hc s).finish (exec_busCommand hc s ▸ h)
    exact hu.of_same rfl rfl rfl

theorem exec_beginBatch_buf {s t : State} (h : exec .beginBatch s = .next t) : t.buf = s.buf := by
  cases hc : s.collecting with
  | false => cases (exec_beginBatch_of_idle hc).symm.trans h; rfl
  | true => cases (exec_beginBatch_of_open hc).symm.trans h; rfl

/-- Settles O55: BEGIN keeps the buffer, and every other command accounts for the batch. -/
theorem batchesCloseByBeingWritten : Obligations.BatchesCloseByBeingWritten := by
  intro s t i h
  by_cases hi : i = .beginBatch
  · subst hi
    exact ⟨fun _ hne => absurd rfl hne, .inl (exec_beginBatch_buf h ▸ List.prefix_refl _)⟩
  · have run := exec_batchRun hi h
    refine ⟨fun hc _ => run.closed hc, ?_⟩
    cases run.buffer with
    | empty buf => exact .inl (buf ▸ List.nil_prefix)
    | kept buf _ => exact .inl buf
    | written es trace =>
      obtain ⟨later, hl⟩ := trace
      exact .inr (.inl ⟨es, later, by rw [← hl, List.append_assoc, List.singleton_append]⟩)
    | lost dead command => exact .inr (.inr ⟨dead, command⟩)

end Sys2Proof.Machine
end

section
/-! PROOF. A command list does the same inside one batch as outside (41_batch.md R129): run both ways, it stays in step. -/

namespace Sys2Proof.Machine

/-! ## What is counted along a list of commands, and along a trace -/

theorem lineElems_append (xs ys : List Event) : lineElems (xs ++ ys) = lineElems xs ++ lineElems ys := by
  induction xs with
  | nil => rfl
  | cons x xs ih => cases x <;> simp [lineElems, ih]

theorem writeCount_append (xs ys : List Event) : writeCount (xs ++ ys) = writeCount xs + writeCount ys := by
  induction xs with
  | nil => simp [writeCount]
  | cons x xs ih => cases x <;> simp [writeCount, ih, Nat.add_right_comm]

theorem samplesTaken_append (xs ys : List Instr) : samplesTaken (xs ++ ys) = samplesTaken xs + samplesTaken ys := by
  induction xs with
  | nil => simp [samplesTaken]
  | cons x xs ih => cases x <;> simp [samplesTaken, ih, Nat.add_assoc]

theorem slotCommands_append (xs ys : List Instr) : slotCommands (xs ++ ys) = slotCommands xs + slotCommands ys := by
  induction xs with
  | nil => simp [slotCommands]
  | cons x xs ih => cases x <;> simp [slotCommands, ih, Nat.add_right_comm]

theorem readValues_append (xs ys : List Instr) {rs : List Response} (qs : List Response) (h : rs.length = xs.length) :
    readValues (xs ++ ys) (rs ++ qs) = readValues xs rs ++ readValues ys qs := by
  induction xs generalizing rs with
  | nil => simp [List.length_eq_zero_iff.mp h, readValues]
  | cons x xs ih =>
    obtain ⟨r, rs, rfl⟩ := List.exists_cons_of_length_eq_add_one h
    have ih := ih (Nat.succ.inj h)
    cases x <;> simp [readValues, ih]

/-- The responses of later commands do not count. -/
theorem readValues_append_later {xs : List Instr} {rs : List Response} (qs : List Response) (h : rs.length = xs.length) :
    readValues xs (rs ++ qs) = readValues xs rs := by
  simpa [readValues] using readValues_append xs [] qs h

theorem SlotCommand.samplesTaken_instr (c : SlotCommand) : samplesTaken [c.instr] = c.sampleCount := by
  cases c <;> rfl

theorem SlotCommand.slotCommands_instr (c : SlotCommand) : slotCommands [c.instr] = 1 := by
  cases c <;> rfl

/-- A slot command has a value for each pending read it adds. -/
theorem SlotCommand.readValues_instr (c : SlotCommand) (k : Nat) (f : Pending → Value) (status : Status) :
    readValues [c.instr] [⟨status, (c.pending k).map f⟩] = (c.pending k).map f := by
  cases c <;> rfl

/-- The token of a read is its position in the batch (41_batch.md R122). -/
theorem SlotCommand.tokens_snoc (c : SlotCommand) (ps : List Pending) (k : Nat) :
    (List.range ps.length).map Value.token ++ (c.pending k).map (fun _ => .token ps.length) =
      (List.range (ps ++ c.pending k).length).map .token := by
  cases c <;> simp [pending, List.range_succ]

theorem samplesTaken_quiet {i : Instr} (h : busCommand i = none) : samplesTaken [i] = 0 := by
  cases i <;> cases h <;> rfl

theorem slotCommands_quiet {i : Instr} (h : busCommand i = none) : slotCommands [i] = 0 := by
  cases i <;> cases h <;> rfl

theorem readValues_quiet {i : Instr} (h : busCommand i = none) (r : Response) : readValues [i] [r] = [] := by
  cases i <;> cases h <;> rfl

theorem slot_or_quiet_of_batchable {i : Instr} (h : batchable i = true) :
    (∃ c : SlotCommand, i = c.instr) ∨ busCommand i = none := by
  cases i <;> cases h
  case wbit b => exact .inl ⟨.wbit b, rfl⟩
  case rbit => exact .inl ⟨.rbit, rfl⟩
  case wbyte d => exact .inl ⟨.wbyte d, rfl⟩
  case rbyte => exact .inl ⟨.rbyte, rfl⟩
  all_goals exact .inr rfl

theorem runCommands_cons_eq_some {i : Instr} {is : List Instr} {s t : State} (h : runCommands (i :: is) s = some t) :
    ∃ u, exec i s = .next u ∧ runCommands is u = some t := by
  unfold runCommands at h
  split at h
  · next u hu => exact ⟨u, hu, h⟩
  · cases h
  · cases h

theorem runCommands_append_eq_some {xs ys : List Instr} {s t : State} (h : runCommands (xs ++ ys) s = some t) :
    ∃ u, runCommands xs s = some u ∧ runCommands ys u = some t := by
  induction xs generalizing s with
  | nil => exact ⟨s, rfl, h⟩
  | cons x xs ih =>
    obtain ⟨v, hv, h⟩ := runCommands_cons_eq_some h
    obtain ⟨u, hu, h⟩ := ih h
    exact ⟨u, (runCommands_cons_of_next hv).trans hu, h⟩

/-! ## An answering transport -/

/-- A script of n answers or more, all of them a. -/
def Supplied {α : Type} (n : Nat) (a : α) (script : List α) : Prop := (∀ x ∈ script, x = a) ∧ n ≤ script.length

theorem Supplied.pred {α : Type} {n : Nat} {a : α} {script : List α} (h : Supplied (n + 1) a script) :
    Supplied n a script := ⟨h.1, Nat.le_of_succ_le h.2⟩

theorem Supplied.eq_cons {α : Type} {n : Nat} {a : α} {script : List α} (h : Supplied (n + 1) a script) :
    ∃ rest, script = a :: rest ∧ Supplied n a rest := by
  obtain ⟨hall, hlen⟩ := h
  cases script with
  | nil => cases hlen
  | cons x rest =>
    obtain ⟨rfl, hrest⟩ := List.forall_mem_cons.mp hall
    exact ⟨rest, rfl, hrest, Nat.le_of_succ_le_succ hlen⟩

/-- The transport answers the coming calls, n writes and n reads or more, with m samples or more. -/
structure Answered (n m : Nat) (writes : List WriteAnswer) (reads : List ReadKind) (samples : List Bool) : Prop where
  writes : Supplied n .ok writes
  reads : Supplied n .bits reads
  samples : m ≤ samples.length

/-- `Flush()` where the transport answers: one write unless the buffer is empty, and the value of every pending read
(41_batch.md R123). -/
theorem flush_of_answered {s : State} {n m : Nat}
    (ha : Answered (n + 1) (nsamp s.buf + m) s.writeAnswers s.readAnswers s.samples)
    (hp : nsamp s.buf = 0 → s.pend = []) :
    ∃ events ws rs, flush s = .ok (s.pend.map (resolve (s.samples.take (nsamp s.buf)))) { s with
        buf := [], pend := [], collecting := false, trace := s.trace ++ events, writeAnswers := ws, readAnswers := rs,
        samples := s.samples.drop (nsamp s.buf) } ∧
      lineElems events = s.buf ∧ writeCount events = (if s.buf = [] then 0 else 1) ∧
      Answered n m ws rs (s.samples.drop (nsamp s.buf)) := by
  obtain ⟨ws, hw, hws⟩ := ha.writes.eq_cons
  obtain ⟨rs, hr, hrs⟩ := ha.reads.eq_cons
  have left : m ≤ (s.samples.drop (nsamp s.buf)).length := by
    rw [List.length_drop]
    exact Nat.le_sub_of_add_le' ha.samples
  by_cases hb : s.buf = []
  · refine ⟨[], s.writeAnswers, s.readAnswers, ?_, by simp [hb, lineElems], by simp [hb, writeCount],
      ha.writes.pred, ha.reads.pred, left⟩
    rw [flush_empty s hb]
    simp [hb, nsamp, hp]
  · by_cases hn : nsamp s.buf = 0
    · refine ⟨[.txWrite s.buf], ws, s.readAnswers, ?_, by simp [lineElems], by simp [hb, writeCount],
        hws, ha.reads.pred, left⟩
      rw [flush_write s ws hb hn hw]
      simp [hn, hp]
    · refine ⟨_, ws, rs, flush_read s ws rs _ _ hb hn ?_ hw hr (List.take_append_drop _ _).symm, by simp [lineElems],
        by simp [hb, writeCount], hws, hrs, left⟩
      exact List.length_take_of_le (Nat.le_of_add_right_le ha.samples)

/-! ## The samples of one read -/

theorem SlotCommand.mem_pending {c : SlotCommand} {k : Nat} {p : Pending} (h : p ∈ c.pending k) :
    pendFirst p = k ∧ pendSize p = c.sampleCount := by
  cases c with
  | wbit | wbyte => cases h
  | rbit | rbyte =>
    obtain rfl := List.mem_singleton.mp h
    exact ⟨rfl, rfl⟩

theorem pendSize_pos (p : Pending) : 0 < pendSize p := by
  cases p <;> simp [pendSize]

/-- A read is resolved from its own samples only (41_batch.md R123). -/
theorem resolve_take {samples : List Bool} {n : Nat} {p : Pending} (h : pendFirst p + pendSize p ≤ n) :
    resolve (samples.take n) p = resolve samples p := by
  have own {k : Nat} (hk : k < n) : (samples.take n).getD k false = samples.getD k false := by
    rw [List.getD_eq_getElem?_getD, List.getElem?_take_of_lt hk, List.getD_eq_getElem?_getD]
  cases p with
  | bit k => rw [resolve, resolve, own (by simp only [pendFirst, pendSize] at h; omega)]
  | rst k =>
    simp only [pendFirst, pendSize] at h
    rw [resolve, resolve, own (by omega), own (by omega)]
  | byte k =>
    refine congrArg bitsToNat (List.map_congr_left fun j hj => own ?_)
    have := List.mem_range.mp hj
    simp only [pendFirst, pendSize] at h
    omega

/-- The samples before those of a read do not count. -/
theorem SlotCommand.resolve_drop (c : SlotCommand) (samples : List Bool) (n : Nat) :
    (c.pending 0).map (resolve (samples.drop n)) = (c.pending n).map (resolve samples) := by
  cases c <;> simp [pending, resolve]

/-- A read outside a batch has the value it would have in one, from its own samples. -/
theorem SlotCommand.resolve_window (c : SlotCommand) (samples : List Bool) (n : Nat) :
    ((c.pending 0).map fun p => Value.num (resolve ((samples.drop n).take c.sampleCount) p)) =
      (c.pending n).map fun p => .num (resolve samples p) := by
  have own : (c.pending 0).map (resolve ((samples.drop n).take c.sampleCount)) =
      (c.pending 0).map (resolve (samples.drop n)) := by
    refine List.map_congr_left fun p hp => resolve_take ?_
    obtain ⟨hfirst, hsize⟩ := mem_pending hp
    omega
  simpa [Function.comp_def] using congrArg (List.map Value.num) (own.trans (c.resolve_drop samples n))

/-! ## A slot command on an answering transport, outside a batch -/

theorem SlotCommand.exec_of_answered {c : SlotCommand} {s : State} {n m : Nat} (hr : Ready s)
    (hf : fitsBatch s c.total) (ha : Answered (n + 1) (c.sampleCount + m) s.writeAnswers s.readAnswers s.samples) :
    ∃ events ws rs, exec c.instr s =
        .next (respond .ok ((c.pending 0).map fun p => .num (resolve (s.samples.take c.sampleCount) p)) { s with
          level := setPin s.level s.cfgDataPin true
          dir := setPin s.dir s.cfgDataPin false
          busPhase := .active
          trace := s.trace ++ events
          writeAnswers := ws
          readAnswers := rs
          samples := s.samples.drop c.sampleCount }) ∧
      lineElems events = c.elems s ∧ writeCount events = 1 ∧ Answered n m ws rs (s.samples.drop c.sampleCount) := by
  have samples : nsamp (c.batch s).buf = c.sampleCount := c.nsamp_elems s
  rw [← samples] at ha
  have noRead : nsamp (c.batch s).buf = 0 → (c.batch s).pend = [] := by
    rw [samples]
    cases c <;> simp [sampleCount, batch, pending]
  obtain ⟨events, ws, rs, hflush, helems, hcount, hleft⟩ := flush_of_answered (s := c.batch s) ha noRead
  refine ⟨events, ws, rs, ?_, helems, hcount.trans (if_neg (c.elems_ne_nil s)), samples ▸ hleft⟩
  rw [exec_of_room hr.idle hr.bufEmpty hr.pendEmpty hr.alive hr.notSuspect hf, hflush, samples, Res.andThen_ok,
    finish_ok, List.map_map]
  simp only [batch, hr.idle, hr.bufEmpty, hr.pendEmpty]
  rfl

/-! ## The units that both runs share -/

/-- The configuration, the mode, the line and the CRC unit are the same. -/
structure SameUnits (u b : State) : Prop where
  params : u.params = b.params
  cfgDataPin : u.cfgDataPin = b.cfgDataPin
  cfgPullup : u.cfgPullup = b.cfgPullup
  cfgOdSupported : u.cfgOdSupported = b.cfgOdSupported
  mode : u.mode = b.mode
  level : u.level = b.level
  dir : u.dir = b.dir
  busPhase : u.busPhase = b.busPhase
  crcAcc : u.crcAcc = b.crcAcc
  crcWidth : u.crcWidth = b.crcWidth

theorem SlotCommand.elems_of_sameUnits (c : SlotCommand) {u b : State} (h : SameUnits u b) :
    c.elems u = c.elems b := by
  have low : lowElem u = lowElem b := by rw [lowElem, lowElem, h.level, h.dir, h.cfgDataPin]
  have rel : relElem u = relElem b := by rw [relElem, relElem, h.level, h.dir, h.cfgDataPin]
  have delay : delayIn u = delayIn b := funext fun iv => by rw [delayIn, delayIn, h.params, h.mode]
  have write : writeElems u = writeElems b := funext fun x => by rw [writeElems, writeElems, low, rel, delay]
  have read : readElems u = readElems b := by rw [readElems, readElems, low, rel, delay]
  cases c with
  | wbit x => exact congrFun write x
  | rbit => exact read
  | wbyte d => simp only [elems, writeByteElems, write]
  | rbyte => simp only [elems, readByteElems, read]

/-- The state that a quiet command leaves before it answers (40_timing.md R104, 43_crc.md R172, R174). -/
def quietState (i : Instr) (s : State) : State :=
  match i with
  | .mode m => if m = .od ∧ s.cfgOdSupported = false then s else { s with mode := m }
  | .crci w => { s with crcWidth := w, crcAcc := 0#16 }
  | .crcb d => { s with crcAcc := crcNext s.crcWidth s.crcAcc d }
  | _ => s

theorem exec_quietState {i : Instr} {s t : State} (hq : busCommand i = none) (h : exec i s = .next t) :
    ∃ status values, t = respond status values (quietState i s) := by
  cases i <;> cases hq
  case nop | tqn | crcr | crci | crcb => exact ⟨.ok, _, (Host.Outcome.next.inj h).symm⟩
  case tq iv =>
    obtain ⟨status, values, ht, -⟩ := execTq_next h
    exact ⟨status, values, ht⟩
  case rdreg r =>
    obtain ⟨status, values, ht, -⟩ := execRdreg_next h
    exact ⟨status, values, ht⟩
  case mode m =>
    obtain ⟨status, values, rfl⟩ := finish_next h
    refine ⟨status, values, congrArg (respond status values) ?_⟩
    simp only [quietState]
    split <;> rfl
  case crcc =>
    obtain ⟨status, values, rfl⟩ := finish_next h
    refine ⟨status, values, congrArg (respond status values) ?_⟩
    split <;> rfl

/-- A quiet command writes only the mode and the CRC unit, and what it writes there depends on the units alone. -/
theorem quietState_of_sameUnits (i : Instr) {u b : State} (h : SameUnits u b) :
    ∃ mode width acc, quietState i u = { u with mode := mode, crcWidth := width, crcAcc := acc } ∧
      quietState i b = { b with mode := mode, crcWidth := width, crcAcc := acc } := by
  obtain ⟨-, -, -, hod, hmode, -, -, -, hacc, hwidth⟩ := h
  have same : ∃ mode width acc, u = { u with mode := mode, crcWidth := width, crcAcc := acc } ∧
      b = { b with mode := mode, crcWidth := width, crcAcc := acc } :=
    ⟨b.mode, b.crcWidth, b.crcAcc, by rw [← hmode, ← hacc, ← hwidth], rfl⟩
  cases i
  case mode m =>
    by_cases hm : m = .od ∧ b.cfgOdSupported = false
    · have eu : quietState (.mode m) u = u := if_pos (hod.symm ▸ hm)
      have eb : quietState (.mode m) b = b := if_pos hm
      rw [eu, eb]
      exact same
    · exact ⟨m, b.crcWidth, b.crcAcc, by rw [quietState, if_neg (hod.symm ▸ hm), ← hacc, ← hwidth], if_neg hm⟩
  case crci w => exact ⟨b.mode, w, 0#16, by rw [← hmode]; rfl, rfl⟩
  case crcb d =>
    exact ⟨b.mode, b.crcWidth, crcNext b.crcWidth b.crcAcc d, by rw [quietState, ← hmode, ← hacc, ← hwidth], rfl⟩
  all_goals exact same

/-! ## Both runs in step -/

/-- The commands `cs` were answered, one response each, with the read values `vals`. -/
def Responded (cs : List Instr) (before after : List Response) (vals : List Value) : Prop :=
  ∃ rs, after = before ++ rs ∧ rs.length = cs.length ∧ readValues cs rs = vals

theorem Responded.snoc {cs : List Instr} {before after : List Response} {vals : List Value}
    (h : Responded cs before after vals) (i : Instr) (r : Response) :
    Responded (cs ++ [i]) before (after ++ [r]) (vals ++ readValues [i] [r]) := by
  obtain ⟨rs, rfl, hl, rfl⟩ := h
  exact ⟨rs ++ [r], List.append_assoc .., by simp [hl], readValues_append cs [i] [r] hl⟩

/-- From `s` the commands `cs` have led outside a batch to `u`, and inside one to `b`. The open batch holds what the other
run has written, and the values that its pending reads will have are those that the other run has answered. -/
structure InStep (s : State) (cs : List Instr) (u b : State) : Prop extends SameUnits u b where
  ready : Ready u
  collecting : b.collecting = true
  notSuspect : b.busSuspect = false
  alive : b.transportDead = false
  batchTrace : b.trace = s.trace
  batchWrites : b.writeAnswers = s.writeAnswers
  batchReads : b.readAnswers = s.readAnswers
  batchSamples : b.samples = s.samples
  samples : u.samples = s.samples.drop (nsamp b.buf)
  taken : nsamp b.buf = samplesTaken cs
  elems : lineElems u.trace = lineElems s.trace ++ b.buf
  writes : writeCount u.trace = writeCount s.trace + slotCommands cs
  bufEmpty : b.buf = [] ↔ slotCommands cs = 0
  inRange : ∀ p ∈ b.pend, pendFirst p + pendSize p ≤ nsamp b.buf
  values : Responded cs s.responses u.responses (b.pend.map fun p => .num (resolve s.samples p))
  tokens : Responded cs (s.responses ++ [⟨.ok, []⟩]) b.responses ((List.range b.pend.length).map .token)

theorem InStep.start {s : State} (hr : Ready s) : InStep s [] s (respond .ok [] { s with collecting := true }) where
  toSameUnits := ⟨rfl, rfl, rfl, rfl, rfl, rfl, rfl, rfl, rfl, rfl⟩
  ready := hr
  collecting := rfl
  notSuspect := hr.notSuspect
  alive := hr.alive
  batchTrace := rfl
  batchWrites := rfl
  batchReads := rfl
  batchSamples := rfl
  samples := by simp [hr.bufEmpty, nsamp]
  taken := by simp [hr.bufEmpty, nsamp, samplesTaken]
  elems := by simp [hr.bufEmpty]
  writes := rfl
  bufEmpty := by simp [hr.bufEmpty, slotCommands]
  inRange := by simp [hr.pendEmpty]
  values := ⟨[], by simp, rfl, by simp [hr.pendEmpty, readValues]⟩
  tokens := ⟨[], by simp, rfl, by simp [hr.pendEmpty, readValues]⟩

theorem InStep.quiet {s u b u' b' : State} {cs : List Instr} {i : Instr} (h : InStep s cs u b)
    (hq : busCommand i = none) (hu : exec i u = .next u') (hb : exec i b = .next b') :
    InStep s (cs ++ [i]) u' b' := by
  obtain ⟨status, values, rfl⟩ := exec_quietState hq hu
  obtain ⟨status', values', rfl⟩ := exec_quietState hq hb
  obtain ⟨mode, width, acc, eu, eb⟩ := quietState_of_sameUnits i h.toSameUnits
  have answered := h.values.snoc i ⟨status, values⟩
  have tokens := h.tokens.snoc i ⟨status', values'⟩
  rw [readValues_quiet hq, List.append_nil] at answered tokens
  rw [eu, eb]
  exact {
    toSameUnits := { h.toSameUnits with mode := rfl, crcAcc := rfl, crcWidth := rfl }
    ready := ⟨⟨h.ready.idle, h.ready.bufEmpty, h.ready.pendEmpty, h.ready.alive⟩, h.ready.notSuspect⟩
    collecting := h.collecting
    notSuspect := h.notSuspect
    alive := h.alive
    batchTrace := h.batchTrace
    batchWrites := h.batchWrites
    batchReads := h.batchReads
    batchSamples := h.batchSamples
    samples := h.samples
    taken := by rw [samplesTaken_append, samplesTaken_quiet hq]; exact h.taken
    elems := h.elems
    writes := by rw [slotCommands_append, slotCommands_quiet hq]; exact h.writes
    bufEmpty := by rw [slotCommands_append, slotCommands_quiet hq]; exact h.bufEmpty
    inRange := h.inRange
    values := answered
    tokens := tokens }

theorem InStep.slot {s u b u' b' : State} {cs : List Instr} {c : SlotCommand} {n m : Nat} (h : InStep s cs u b)
    (ha : Answered (n + 1) (c.sampleCount + m) u.writeAnswers u.readAnswers u.samples)
    (hu : exec c.instr u = .next u') (hb : exec c.instr b = .next b') :
    InStep s (cs ++ [c.instr]) u' b' ∧ Answered n m u'.writeAnswers u'.readAnswers u'.samples := by
  have room : fitsBatch u c.total := by
    by_contra hf
    cases (SlotCommand.exec_of_full h.ready.idle h.ready.bufEmpty h.ready.pendEmpty h.ready.alive h.ready.notSuspect
      hf).symm.trans hu
  have room' : fitsBatch b (b.buf.length + c.total) := by
    by_contra hf
    cases (SlotCommand.exec_of_full_open h.collecting h.notSuspect hf).symm.trans hb
  obtain ⟨events, ws, rs, hrun, helems, hcount, hleft⟩ := SlotCommand.exec_of_answered h.ready room ha
  rw [h.samples, c.resolve_window] at hrun
  cases hrun.symm.trans hu
  cases (SlotCommand.exec_of_open h.collecting h.notSuspect room').symm.trans hb
  have answered := h.values.snoc c.instr ⟨.ok, (c.pending (nsamp b.buf)).map fun p => .num (resolve s.samples p)⟩
  have tokens := h.tokens.snoc c.instr ⟨.ok, (c.pending (nsamp b.buf)).map fun _ => .token b.pend.length⟩
  rw [SlotCommand.readValues_instr, ← List.map_append] at answered
  rw [SlotCommand.readValues_instr, SlotCommand.tokens_snoc] at tokens
  refine ⟨?_, h.samples ▸ hleft⟩
  exact {
    toSameUnits := { h.toSameUnits with
      level := congrArg₂ (setPin · · true) h.level h.cfgDataPin
      dir := congrArg₂ (setPin · · false) h.dir h.cfgDataPin
      busPhase := rfl }
    ready := ⟨⟨h.ready.idle, h.ready.bufEmpty, h.ready.pendEmpty, h.ready.alive⟩, h.ready.notSuspect⟩
    collecting := h.collecting
    notSuspect := h.notSuspect
    alive := h.alive
    batchTrace := h.batchTrace
    batchWrites := h.batchWrites
    batchReads := h.batchReads
    batchSamples := h.batchSamples
    samples := by
      show (s.samples.drop (nsamp b.buf)).drop c.sampleCount = s.samples.drop (nsamp (c.done b).buf)
      rw [c.nsamp_done_buf, List.drop_drop]
    taken := by
      show nsamp (c.done b).buf = _
      rw [c.nsamp_done_buf, h.taken, samplesTaken_append, c.samplesTaken_instr]
    elems := by
      show lineElems (u.trace ++ events) = lineElems s.trace ++ (b.buf ++ c.elems b)
      rw [lineElems_append, h.elems, helems, c.elems_of_sameUnits h.toSameUnits, List.append_assoc]
    writes := by
      show writeCount (u.trace ++ events) = _
      rw [writeCount_append, h.writes, hcount, slotCommands_append, c.slotCommands_instr, Nat.add_assoc]
    bufEmpty := by
      show b.buf ++ c.elems b = [] ↔ _
      simp [c.elems_ne_nil b, slotCommands_append, c.slotCommands_instr]
    inRange := by
      show ∀ p ∈ b.pend ++ c.pending (nsamp b.buf), pendFirst p + pendSize p ≤ nsamp (c.done b).buf
      rw [c.nsamp_done_buf]
      intro p hp
      rcases List.mem_append.mp hp with hp | hp
      · exact (h.inRange p hp).trans (Nat.le_add_right _ _)
      · obtain ⟨hfirst, hsize⟩ := SlotCommand.mem_pending hp
        rw [hfirst, hsize]
    values := answered
    tokens := tokens }

/-- Each command of the list keeps the two runs in step. -/
theorem InStep.run {s u b u' b' : State} {cs L : List Instr} (h : InStep s cs u b)
    (hL : ∀ i ∈ L, batchable i = true)
    (ha : Answered L.length (samplesTaken L) u.writeAnswers u.readAnswers u.samples)
    (hu : runCommands L u = some u') (hb : runCommands L b = some b') : InStep s (cs ++ L) u' b' := by
  induction L generalizing cs u b with
  | nil =>
    cases hu
    cases hb
    simpa using h
  | cons i is ih =>
    obtain ⟨v, hv, hu⟩ := runCommands_cons_eq_some hu
    obtain ⟨w, hw, hb⟩ := runCommands_cons_eq_some hb
    obtain ⟨hi, his⟩ := List.forall_mem_cons.mp hL
    obtain ⟨step, left⟩ : InStep s (cs ++ [i]) v w ∧
        Answered is.length (samplesTaken is) v.writeAnswers v.readAnswers v.samples := by
      have taken := samplesTaken_append [i] is
      rcases slot_or_quiet_of_batchable hi with ⟨c, rfl⟩ | hq
      · rw [c.samplesTaken_instr] at taken
        exact h.slot (taken ▸ ha) hv hw
      · rw [samplesTaken_quiet hq, Nat.zero_add] at taken
        refine ⟨h.quiet hq hv hw, ?_⟩
        obtain ⟨status, values, rfl⟩ := exec_quietState hq hv
        obtain ⟨mode, width, acc, eu, -⟩ := quietState_of_sameUnits i h.toSameUnits
        rw [eu]
        exact ⟨ha.writes.pred, ha.reads.pred, taken ▸ ha.samples⟩
    simpa using ih step his left hu hb

/-! ## FLUSH at the end -/

/-- FLUSH of an open batch where the transport answers. -/
theorem exec_flush_of_answered {s : State} {n m : Nat} (hc : s.collecting = true) (hd : s.transportDead = false)
    (ha : Answered (n + 1) (nsamp s.buf + m) s.writeAnswers s.readAnswers s.samples)
    (hr : ∀ p ∈ s.pend, pendFirst p + pendSize p ≤ nsamp s.buf) :
    ∃ events ws rs, exec .flush s = .next (respond .ok (s.pend.map fun p => .num (resolve s.samples p)) { s with
        buf := [], pend := [], collecting := false, trace := s.trace ++ events, writeAnswers := ws, readAnswers := rs,
        samples := s.samples.drop (nsamp s.buf) }) ∧
      lineElems events = s.buf ∧ writeCount events = (if s.buf = [] then 0 else 1) := by
  have noRead (hn : nsamp s.buf = 0) : s.pend = [] := by
    refine List.eq_nil_iff_forall_not_mem.mpr fun p hp => ?_
    have := hr p hp
    have := pendSize_pos p
    omega
  obtain ⟨events, ws, rs, hflush, helems, hcount, -⟩ := flush_of_answered ha noRead
  refine ⟨events, ws, rs, ?_, helems, hcount⟩
  have own : s.pend.map (resolve (s.samples.take (nsamp s.buf))) = s.pend.map (resolve s.samples) :=
    List.map_congr_left fun p hp => resolve_take (hr p hp)
  rw [exec_flush_of_open hc hd, hflush, own, Res.andThen_ok, finish_ok, List.map_map]
  rfl

/-- Settles O59: the two runs stay in step, and FLUSH then writes the buffer once and answers what the other run's reads
have answered. -/
theorem batchSizeInvariance : Obligations.BatchSizeInvariance := by
  intro L s u v hr hL hwok hw hrok hrd hs hu hv
  have ha : Answered (L.length + 1) (samplesTaken L) s.writeAnswers s.readAnswers s.samples :=
    ⟨⟨hwok, hw⟩, ⟨hrok, hrd⟩, hs⟩
  obtain ⟨b₀, hb₀, hv⟩ := runCommands_cons_eq_some hv
  obtain ⟨b, hb, hv⟩ := runCommands_append_eq_some hv
  obtain ⟨v', hv', hv⟩ := runCommands_cons_eq_some hv
  cases hv
  cases (exec_beginBatch_of_idle hr.idle).symm.trans hb₀
  have h := (InStep.start hr).run hL ⟨ha.writes.pred, ha.reads.pred, ha.samples⟩ hu hb
  rw [List.nil_append] at h
  have hab : Answered (L.length + 1) (nsamp b.buf + 0) b.writeAnswers b.readAnswers b.samples := by
    rw [h.batchWrites, h.batchReads, h.batchSamples, h.taken]
    exact ha
  obtain ⟨events, ws, rs, hflush, helems, hcount⟩ := exec_flush_of_answered h.collecting h.alive hab h.inRange
  cases hflush.symm.trans hv'
  obtain ⟨us, hus, -, hvalues⟩ := h.values
  obtain ⟨bs, hbs, hlen, htokens⟩ := h.tokens
  have answered : u.responses.drop s.responses.length = us := by rw [hus, List.drop_left]
  rw [answered, hvalues]
  refine ⟨?_, ?_, ?_, ?_, h.writes, ?_⟩
  · show lineElems u.trace = lineElems (b.trace ++ events)
    rw [lineElems_append, helems, h.batchTrace, h.elems]
  · simp [h.batchSamples]
  · have answers (r : Response) : (b.responses ++ [r]).drop (s.responses.length + 1) = bs ++ [r] := by
      rw [hbs, List.append_assoc]
      exact List.drop_left' (by simp)
    rw [respond_responses, answers, readValues_append_later _ hlen, htokens, List.length_map]
  · exact ⟨h.params, h.cfgDataPin, h.cfgPullup, h.cfgOdSupported, h.mode, h.ready.idle, h.ready.bufEmpty,
      h.ready.pendEmpty, h.level, h.dir, h.busPhase, h.ready.notSuspect.trans h.notSuspect.symm,
      h.ready.alive.trans h.alive.symm, h.crcAcc, h.crcWidth, h.batchSamples ▸ h.samples⟩
  · show writeCount (b.trace ++ events) = _
    rw [writeCount_append, hcount, h.batchTrace, if_congr h.bufEmpty rfl rfl]

end Sys2Proof.Machine
end

section
/-! PROOF. The bit and byte commands outside a batch, on a transport that answers and on a suspect bus (42_bitbyte.md
R144-R158). -/

namespace Sys2Proof.Machine

/-! ## The calls of an implicit batch (41_batch.md R124) -/

/-- A slot command without samples makes one write. -/
theorem SlotCommand.exec_of_written {c : SlotCommand} {s : State} {ws : List WriteAnswer} (hr : Ready s)
    (hf : fitsBatch s c.total) (hn : c.sampleCount = 0) (hw : s.writeAnswers = .ok :: ws) :
    exec c.instr s = .next (respond .ok [] { s with
      level := setPin s.level s.cfgDataPin true
      dir := setPin s.dir s.cfgDataPin false
      busPhase := .active
      trace := s.trace ++ [.txWrite (c.elems s)]
      writeAnswers := ws }) := by
  have noSamples : nsamp (c.batch s).buf = 0 := (c.nsamp_elems s).trans hn
  rw [exec_of_room hr.idle hr.bufEmpty hr.pendEmpty hr.alive hr.notSuspect hf,
    flush_write (c.batch s) ws (c.elems_ne_nil s) noSamples hw]
  simp [batch, hr.idle, hr.bufEmpty, hr.pendEmpty]

/-- A slot command with samples makes one write and one read, and answers the values of its own samples. -/
theorem SlotCommand.exec_of_read {c : SlotCommand} {s : State} {ws : List WriteAnswer} {rs : List ReadKind}
    {bs rest : List Bool} (hr : Ready s) (hf : fitsBatch s c.total) (hn : 0 < c.sampleCount)
    (hl : bs.length = c.sampleCount) (hw : s.writeAnswers = .ok :: ws) (hrd : s.readAnswers = .bits :: rs)
    (hs : s.samples = bs ++ rest) :
    exec c.instr s = .next (respond .ok ((c.pending 0).map fun p => .num (resolve bs p)) { s with
      level := setPin s.level s.cfgDataPin true
      dir := setPin s.dir s.cfgDataPin false
      busPhase := .active
      trace := s.trace ++ [.txWrite (c.elems s), .txRead c.sampleCount (.bits bs)]
      writeAnswers := ws
      readAnswers := rs
      samples := rest }) := by
  have samples : nsamp (c.batch s).buf = c.sampleCount := c.nsamp_elems s
  rw [exec_of_room hr.idle hr.bufEmpty hr.pendEmpty hr.alive hr.notSuspect hf,
    flush_read (c.batch s) ws rs bs rest (c.elems_ne_nil s) (by rw [samples]; exact hn.ne') (hl.trans samples.symm)
      hw hrd hs, samples]
  simp [batch, hr.idle, hr.bufEmpty, hr.pendEmpty, Function.comp_def]

/-- Settles O26: both commands take no sample. -/
theorem unbatchedWriteIsOneCall : Obligations.UnbatchedWriteIsOneCall :=
  fun _ _ hr hw => ⟨fun b hf => SlotCommand.exec_of_written (c := .wbit b) hr hf rfl hw,
    fun d hf => SlotCommand.exec_of_written (c := .wbyte d) hr hf rfl hw⟩

/-- Settles O27: of the two samples of a read slot the first is its value. -/
theorem unbatchedReadBitReturnsFirstSample : Obligations.UnbatchedReadBitReturnsFirstSample :=
  fun _ _ _ a b _ hr hf hw hrd hs =>
    SlotCommand.exec_of_read (c := .rbit) (bs := [a, b]) hr hf (by decide) rfl hw hrd hs

/-- The samples of eight read slots whose first ones spell a byte resolve to that byte (42_bitbyte.md R155). -/
theorem resolve_byte_slotSamples (d x : Byte) :
    resolve ((List.range 8).map fun j => [d.getLsbD j, x.getLsbD j]).flatten (.byte 0) = d.toNat := by
  obtain ⟨-, -, byte⟩ := resolveTakesFirstSamples [] []
  simpa only [List.nil_append, List.append_nil, List.length_nil] using byte d x

theorem exec_rbyte_of_read {s : State} {ws : List WriteAnswer} {rs : List ReadKind} {d x : Byte} {rest : List Bool}
    (hr : Ready s) (hf : fitsBatch s 56) (hw : s.writeAnswers = .ok :: ws) (hrd : s.readAnswers = .bits :: rs)
    (hs : s.samples = ((List.range 8).map fun j => [d.getLsbD j, x.getLsbD j]).flatten ++ rest) :
    exec .rbyte s = .next (respond .ok [.num d.toNat] { s with
      level := setPin s.level s.cfgDataPin true
      dir := setPin s.dir s.cfgDataPin false
      busPhase := .active
      trace := s.trace ++ [.txWrite (readByteElems s),
        .txRead 16 (.bits ((List.range 8).map fun j => [d.getLsbD j, x.getLsbD j]).flatten)]
      writeAnswers := ws
      readAnswers := rs
      samples := rest }) := by
  rw [← resolve_byte_slotSamples d x]
  exact SlotCommand.exec_of_read (c := .rbyte) hr hf (by decide) rfl hw hrd hs

/-- Settles O28: RBYTE reads the samples of its eight slots, and the first ones spell the byte. -/
theorem unbatchedReadByteReturnsFirstSamples : Obligations.UnbatchedReadByteReturnsFirstSamples :=
  fun _ _ _ _ _ _ hr hf hw hrd hs => exec_rbyte_of_read hr hf hw hrd hs

/-! ## A suspect bus (42_bitbyte.md R148, 60_exceptions.md R231) -/

theorem SlotCommand.exec_of_suspect {c : SlotCommand} {s : State} (hs : s.busSuspect = true)
    (h : s.collecting = true ∨ s.transportDead = false) : exec c.instr s = .refused .busSuspect := by
  have stops : (s.busSuspect && (s.collecting || !s.transportDead)) = true := by simpa [hs] using h
  rw [c.exec_instr, bitCommand, if_pos stops, finish_stop]

theorem exec_pullup_of_suspect {u : BitVec 24} {s : State} (hc : s.collecting = true) (hp : s.pend = [])
    (hd : s.transportDead = false) (hs : s.busSuspect = true) : exec (.pullup u) s = .refused .busSuspect := by
  simp [exec, execPullup, pullupCommand, hc, hp, hd, hs]

/-- Settles O30: the commands check the bus after the errors that R231 puts before. -/
theorem suspectBusRefusesSlots : Obligations.SuspectBusRefusesSlots :=
  fun _ hs h => ⟨fun _ => SlotCommand.exec_of_suspect hs h, fun _ hc hp hd => exec_pullup_of_suspect hc hp hd hs⟩

end Sys2Proof.Machine
end

section
/-! PROOF. RESET: one sequence, the fallback from overdrive, and how each sequence fails (42_bitbyte.md R149-R151). -/

namespace Sys2Proof.Machine

/-! ## RESET without a sequence -/

theorem exec_reset_of_open {s : State} (hc : s.collecting = true) :
    exec .reset s = .next (respond .protocol [.num 3] s) := by
  simp [exec, execReset, resetCommand, hc, protocolViolation]

theorem exec_reset_of_dead {s : State} (hc : s.collecting = false) (hd : s.transportDead = true) :
    exec .reset s = .next (respond .usb [.num 0] s) := by
  simp [exec, execReset, resetCommand, hc, hd, usbError]

theorem exec_reset_of_idle {s : State} (hi : Idle s) :
    exec .reset s = finish ((resetBody s).andThen fun p t => .ok [.num p.toNat] t) := by
  simp [exec, execReset, resetCommand, hi.idle, hi.alive]

/-! ## One sequence that does not complete (42_bitbyte.md R149) -/

theorem resetOnce_of_idle {s : State} (hi : Idle s) :
    resetOnce s = (ifRoom (resetBatch s) flush).andThen fun vals t =>
      .ok (decide (vals.headD 0 = 1)) { t with busSuspect := false } := by
  rw [resetOnce, resetSlot_of_idle hi]

theorem resetOnce_of_full {s : State} (hi : Idle s) (hf : ¬fitsBatch s 7) :
    resetOnce s = .stop .batchFull (resetBatch s) := by
  have full : ¬fitsBatch (resetBatch s) (resetBatch s).buf.length := hf
  rw [resetOnce_of_idle hi, ifRoom_full flush full, Res.andThen_stop]

/-- An error of its `Flush()` is an error of the sequence. -/
theorem resetOnce_of_raise {s t : State} {e : Err} (hi : Idle s) (hf : fitsBatch s 7)
    (h : flush (resetBatch s) = .raise e t) : resetOnce s = .raise e t := by
  have fits : fitsBatch (resetBatch s) (resetBatch s).buf.length := hf
  rw [resetOnce_of_idle hi, ifRoom_fits flush fits, h, Res.andThen_raise]

section
variable {s : State} {ws : List WriteAnswer} {rs : List ReadKind} (hi : Idle s) (hf : fitsBatch s 7)
include hi hf

theorem resetOnce_writeFails (hw : s.writeAnswers = .usbErr :: ws) :
    resetOnce s = .raise (usbError 1) { s with
      level := setPin s.level s.cfgDataPin true
      dir := setPin s.dir s.cfgDataPin false
      transportDead := true
      trace := s.trace ++ [.txWrite (resetElems s)]
      writeAnswers := ws } := by
  rw [resetOnce_of_raise hi hf (flush_writeFails (resetBatch s) ws (List.cons_ne_nil _ _) hw)]
  simp [resetBatch, hi.idle, hi.bufEmpty, hi.pendEmpty]

theorem resetOnce_readFails (hw : s.writeAnswers = .ok :: ws) (hr : s.readAnswers = .usbErr :: rs) :
    resetOnce s = .raise (usbError 2) { s with
      level := setPin s.level s.cfgDataPin true
      dir := setPin s.dir s.cfgDataPin false
      transportDead := true
      trace := s.trace ++ [.txWrite (resetElems s), .txRead 2 .usbErr]
      writeAnswers := ws
      readAnswers := rs } := by
  rw [resetOnce_of_raise hi hf (flush_readFails (resetBatch s) ws rs (List.cons_ne_nil _ _) (Nat.succ_ne_zero 1) hw hr)]
  simp [resetBatch, nsamp_resetElems, hi.idle, hi.bufEmpty, hi.pendEmpty]

theorem resetOnce_timesOut (hw : s.writeAnswers = .ok :: ws) (hr : s.readAnswers = .timeout :: rs) :
    resetOnce s = .raise (timeoutError 2) { s with
      level := setPin s.level s.cfgDataPin true
      dir := setPin s.dir s.cfgDataPin false
      busSuspect := true
      trace := s.trace ++ [.txWrite (resetElems s), .txRead 2 .timeout]
      writeAnswers := ws
      readAnswers := rs } := by
  rw [resetOnce_of_raise hi hf (flush_timesOut (resetBatch s) ws rs (List.cons_ne_nil _ _) (Nat.succ_ne_zero 1) hw hr)]
  simp [resetBatch, nsamp_resetElems, hi.idle, hi.bufEmpty, hi.pendEmpty]

end

/-! ## The two sequences of RESET (42_bitbyte.md R150) -/

/-- RESET is one sequence where a device answers it or the mode is already STD. -/
theorem exec_reset_of_sequence {s t : State} {p : Bool} (hi : Idle s) (h : resetOnce s = .ok p t)
    (hp : ¬(p = false ∧ t.mode = .od)) : exec .reset s = .next (respond .ok [.num p.toNat] (setPresence p t)) := by
  simp only [exec_reset_of_idle hi, resetBody, h, Res.andThen_ok, if_neg hp, finish_ok]

theorem exec_reset_of_raise {s t : State} {e : Err} (hi : Idle s) (h : resetOnce s = .raise e t) :
    exec .reset s = .next (respond e.status e.info t) := by
  simp only [exec_reset_of_idle hi, resetBody, h, Res.andThen_raise, finish_raise]

theorem exec_reset_of_full {s : State} (hi : Idle s) (hf : ¬fitsBatch s 7) :
    exec .reset s = .refused .batchFull := by
  simp only [exec_reset_of_idle hi, resetBody, resetOnce_of_full hi hf, Res.andThen_stop, finish_stop]

/-- The state in which the retry starts: a sequence at overdrive intervals saw no device, and the mode is now STD. -/
def fallbackState (s : State) (ws : List WriteAnswer) (rs : List ReadKind) (rest : List Bool) : State :=
  { s with
    mode := .std
    level := setPin s.level s.cfgDataPin true
    dir := setPin s.dir s.cfgDataPin false
    busSuspect := false
    trace := s.trace ++ [.txWrite (resetElems s), .txRead 2 (.bits [true, true])]
    writeAnswers := ws
    readAnswers := rs
    samples := rest }

theorem fallbackState_idle {s : State} (hi : Idle s) (ws : List WriteAnswer) (rs : List ReadKind) (rest : List Bool) :
    Idle (fallbackState s ws rs rest) := ⟨hi.idle, hi.bufEmpty, hi.pendEmpty, hi.alive⟩

/-- The retry writes the same pins at standard intervals. -/
theorem resetElems_fallbackState (s : State) (ws : List WriteAnswer) (rs : List ReadKind) (rest : List Bool) :
    resetElems (fallbackState s ws rs rest) = resetElems { s with mode := .std } := by
  simp [resetElems, lowElem, relElem, delayIn, fallbackState]

/-- In overdrive, without presence, the result of RESET is that of one retry. -/
theorem exec_reset_of_fallback {s : State} {ws : List WriteAnswer} {rs : List ReadKind} {rest : List Bool}
    (hi : Idle s) (hm : s.mode = .od) (hf : fitsBatch s 7) (hw : s.writeAnswers = .ok :: ws)
    (hr : s.readAnswers = .bits :: rs) (hs : s.samples = true :: true :: rest) :
    exec .reset s = finish ((resetOnce (fallbackState s ws rs rest)).andThen fun p t =>
      .ok [.num p.toNat] (setPresence p t)) := by
  rw [exec_reset_of_idle hi, resetBody, resetOnce_of_answers hi hf hw hr hs, Res.andThen_ok, if_pos ⟨rfl, hm⟩]
  show finish (((resetOnce (fallbackState s ws rs rest)).andThen _).andThen _) = _
  cases resetOnce (fallbackState s ws rs rest) <;> rfl

/-! ## The statements -/

theorem presence_toNat (a b : Bool) : (!(a && b)).toNat = if a = true ∧ b = true then 0 else 1 := by
  cases a <;> cases b <;> rfl

theorem presence_phase (a b : Bool) :
    (if (!(a && b)) = true then BusPhase.presence else .noPresence) =
      if a = true ∧ b = true then .noPresence else .presence := by
  cases a <;> cases b <;> rfl

/-- Settles O31: in standard speed the one sequence is the whole of RESET. -/
theorem standardResetDetectsPresence : Obligations.StandardResetDetectsPresence := by
  intro s ws rs a b rest hi hm hf hw hr hs
  rw [exec_reset_of_sequence hi (resetOnce_of_answers hi hf hw hr hs) (by simp [hm])]
  simp only [setPresence, presence_toNat, presence_phase]
  rfl

/-- Settles O32: a device answers the first sequence, or the second one decides. -/
theorem overdriveResetFallsBackOnce : Obligations.OverdriveResetFallsBackOnce := by
  intro s hi hm hf
  refine ⟨fun ws rs a b rest hab hw hr hs => ?_, fun ws rs a b rest hw hr hs => ?_⟩
  · have run := resetOnce_of_answers hi hf hw hr hs
    have present : (!(a && b)) = true := by rwa [Bool.not_eq_true', Bool.eq_false_iff, Ne, Bool.and_eq_true]
    rw [present] at run
    exact exec_reset_of_presence hi run
  · rw [exec_reset_of_fallback hi hm hf hw hr hs,
      resetOnce_of_answers (fallbackState_idle hi _ _ _) hf rfl rfl rfl, resetElems_fallbackState]
    simp only [Res.andThen_ok, finish_ok, setPresence, presence_toNat, presence_phase]
    simp [respond, fallbackState]

/-- Settles O33: what RESET checks first, then each way in which the first sequence or the retry fails. -/
theorem resetFailures : Obligations.ResetFailures := by
  intro s
  refine ⟨exec_reset_of_open, exec_reset_of_dead, exec_reset_of_full, fun hi hf ws rs =>
    ⟨fun hw => exec_reset_of_raise hi (resetOnce_writeFails hi hf hw),
      fun hw hr => exec_reset_of_raise hi (resetOnce_readFails hi hf hw hr),
      fun hw hr => exec_reset_of_raise hi (resetOnce_timesOut hi hf hw hr), fun rest hm hs => ?_⟩⟩
  have idle (ws rs) := fallbackState_idle hi ws rs rest
  refine ⟨fun hw hr => ?_, fun hw hr => ?_, fun hw hr => ?_⟩ <;> rw [exec_reset_of_fallback hi hm hf hw hr hs]
  · rw [resetOnce_writeFails (idle _ _) hf rfl, resetElems_fallbackState]
    simp [respond, usbError, fallbackState]
  · rw [resetOnce_readFails (idle _ _) hf rfl rfl, resetElems_fallbackState]
    simp [respond, usbError, fallbackState]
  · rw [resetOnce_timesOut (idle _ _) hf rfl rfl, resetElems_fallbackState]
    simp [respond, timeoutError, fallbackState]

end Sys2Proof.Machine
end

section
/-! PROOF. PULLUP: its wait, with and without a pullup pin, and its completion read, which is an RBYTE outside a batch
(42_bitbyte.md R160); and the misuse of PULLUP and SEARCH (60_exceptions.md R229). -/

namespace Sys2Proof.Machine

/-! ## Misuse -/

theorem exec_search_of_open {s : State} (hc : s.collecting = true) :
    exec .search s = .next (respond .protocol [.num 4] s) := by
  simp [exec, execSearch, searchCommand, hc, protocolViolation]

theorem exec_search_of_dead {s : State} (hc : s.collecting = false) (hd : s.transportDead = true) :
    exec .search s = .next (respond .usb [.num 0] s) := by
  simp [exec, execSearch, searchCommand, hc, hd, usbError]

theorem exec_pullup_of_idle {u : BitVec 24} {s : State} (hc : s.collecting = false) :
    exec (.pullup u) s = .next (respond .protocol [.num 5] s) := by
  simp [exec, execPullup, pullupCommand, hc, protocolViolation]

theorem exec_pullup_of_pending {u : BitVec 24} {s : State} (hc : s.collecting = true) (hp : s.pend ≠ []) :
    exec (.pullup u) s = .next (respond .protocol [.num 6] s) := by
  simp [exec, execPullup, pullupCommand, hc, hp, protocolViolation]

theorem exec_pullup_of_dead {u : BitVec 24} {s : State} (hc : s.collecting = true) (hp : s.pend = [])
    (hd : s.transportDead = true) :
    exec (.pullup u) s = .next (respond .usb [.num 0] { s with buf := [], collecting := false }) := by
  simp [exec, execPullup, pullupCommand, hc, hp, hd, usbError]

/-- Settles O34: SEARCH and PULLUP check the batch and then the transport. -/
theorem pullupAndSearchMisuse : Obligations.PullupAndSearchMisuse :=
  fun _ _ => ⟨exec_search_of_open, exec_search_of_dead, exec_pullup_of_idle, exec_pullup_of_pending,
    exec_pullup_of_dead⟩

/-! ## From the wait to the completion read -/

/-- What PULLUP asks before it makes a call (42_bitbyte.md R160), in a batch without samples. -/
structure PullupReady (s : State) : Prop where
  collecting : s.collecting = true
  pendEmpty : s.pend = []
  noSamples : nsamp s.buf = 0
  alive : s.transportDead = false
  notSuspect : s.busSuspect = false

theorem exec_pullup_of_ready {s : State} (h : PullupReady s) (u : BitVec 24) :
    exec (.pullup u) s = finish ((pullupWait u.toNat s).andThen fun _ t => pullupRead t) := by
  simp [exec, execPullup, pullupCommand, h.collecting, h.pendEmpty, h.alive, h.notSuspect]

theorem exec_pullup_of_waitRaises {s t : State} {u : BitVec 24} {e : Err} (h : PullupReady s)
    (hw : pullupWait u.toNat s = .raise e t) : exec (.pullup u) s = .next (respond e.status e.info t) := by
  rw [exec_pullup_of_ready h, hw, Res.andThen_raise, finish_raise]

/-- The completion read is an RBYTE outside a batch, from the state after the wait. -/
theorem exec_rbyte_eq_pullupRead {t : State} (h : Ready t) : exec .rbyte t = finish (pullupRead t) :=
  (SlotCommand.exec_of_alive (c := .rbyte) h.idle h.bufEmpty h.pendEmpty h.alive h.notSuspect).trans
    (by rw [← SlotCommand.body_of_empty h.bufEmpty h.pendEmpty]; rfl)

/-- The state after the wait: the batch is closed, and the pullup pin has the level it is left at. -/
def pullupWaited (s : State) (level : Half) (trace : List Event) (ws : List WriteAnswer) : State :=
  { s with buf := [], collecting := false, level := level, trace := trace, writeAnswers := ws }

theorem pullupWaited_ready {s : State} (h : PullupReady s) (level : Half) (trace : List Event) (ws : List WriteAnswer) :
    Ready (pullupWaited s level trace ws) := ⟨⟨rfl, rfl, h.pendEmpty, h.alive⟩, h.notSuspect⟩

theorem exec_pullup_of_waited {s : State} {u : BitVec 24} {vals : List Nat} {level : Half} {trace : List Event}
    {ws : List WriteAnswer} (h : PullupReady s) (hw : pullupWait u.toNat s = .ok vals (pullupWaited s level trace ws)) :
    exec (.pullup u) s = exec .rbyte (pullupWaited s level trace ws) := by
  rw [exec_pullup_of_ready h, hw, Res.andThen_ok, exec_rbyte_eq_pullupRead (pullupWaited_ready h level trace ws)]

/-! ## The completion read -/

/-- The state that the completion read leaves: its slots have released the data pin and made the bus active. -/
def pullupCompleted (s : State) (level : Half) (trace : List Event) (ws : List WriteAnswer) : State :=
  { pullupWaited s (setPin level s.cfgDataPin true) trace ws with
    dir := setPin s.dir s.cfgDataPin false
    busPhase := .active }

/-- The write of the completion read (42_bitbyte.md R158), with the pullup pin at the level the wait leaves. -/
def completionWrite (s : State) (level : Half) : Event := .txWrite (readByteElems { s with level := level })

section
variable {s : State} {u : BitVec 24} {vals : List Nat} {level : Half} {before events : List Event}
  {ws : List WriteAnswer} {rs : List ReadKind} (h : PullupReady s)
include h

theorem exec_pullup_of_completionFull (hf : ¬fitsBatch s 56)
    (hw : pullupWait u.toNat s = .ok vals (pullupWaited s level before ws)) :
    exec (.pullup u) s = .refused .batchFull := by
  rw [exec_pullup_of_waited h hw]
  exact SlotCommand.exec_of_full (c := .rbyte) rfl rfl h.pendEmpty h.alive h.notSuspect hf

variable (hf : fitsBatch s 56)
include hf

theorem exec_pullup_of_completion {d x : Byte} {rest : List Bool}
    (hw : pullupWait u.toNat s = .ok vals (pullupWaited s level (before ++ events) (.ok :: ws)))
    (hr : s.readAnswers = .bits :: rs)
    (hs : s.samples = ((List.range 8).map fun j => [d.getLsbD j, x.getLsbD j]).flatten ++ rest) :
    exec (.pullup u) s = .next (respond .ok [.num d.toNat] { pullupCompleted s level (before ++ (events ++
        [completionWrite s level,
          .txRead 16 (.bits ((List.range 8).map fun j => [d.getLsbD j, x.getLsbD j]).flatten)])) ws with
      readAnswers := rs
      samples := rest }) := by
  rw [exec_pullup_of_waited h hw, ← List.append_assoc]
  exact exec_rbyte_of_read (pullupWaited_ready h _ _ _) hf rfl hr hs

theorem exec_pullup_of_completionWriteFails
    (hw : pullupWait u.toNat s = .ok vals (pullupWaited s level (before ++ events) (.usbErr :: ws))) :
    exec (.pullup u) s = .next (respond .usb [.num 1]
      { pullupCompleted s level (before ++ (events ++ [completionWrite s level])) ws with transportDead := true }) := by
  obtain ⟨-, -, calls⟩ := unbatchedSlotFailures (pullupWaited s level (before ++ events) (.usbErr :: ws)) .rbyte rfl rfl
    h.pendEmpty
  obtain ⟨writeFails, -⟩ := calls h.alive h.notSuspect hf ws
  rw [exec_pullup_of_waited h hw, ← List.append_assoc]
  exact writeFails rfl

theorem exec_pullup_of_completionReadFails
    (hw : pullupWait u.toNat s = .ok vals (pullupWaited s level (before ++ events) (.ok :: ws)))
    (hr : s.readAnswers = .usbErr :: rs) :
    exec (.pullup u) s = .next (respond .usb [.num 2]
      { pullupCompleted s level (before ++ (events ++ [completionWrite s level, .txRead 16 .usbErr])) ws with
        readAnswers := rs
        transportDead := true }) := by
  obtain ⟨-, -, calls⟩ := unbatchedSlotFailures (pullupWaited s level (before ++ events) (.ok :: ws)) .rbyte rfl rfl
    h.pendEmpty
  obtain ⟨-, reads⟩ := calls h.alive h.notSuspect hf ws
  obtain ⟨readFails, -⟩ := reads rs rfl (by decide)
  rw [exec_pullup_of_waited h hw, ← List.append_assoc]
  exact readFails hr

theorem exec_pullup_of_completionTimesOut
    (hw : pullupWait u.toNat s = .ok vals (pullupWaited s level (before ++ events) (.ok :: ws)))
    (hr : s.readAnswers = .timeout :: rs) :
    exec (.pullup u) s = .next (respond .timeout [.num 16]
      { pullupCompleted s level (before ++ (events ++ [completionWrite s level, .txRead 16 .timeout])) ws with
        readAnswers := rs
        busSuspect := true }) := by
  obtain ⟨-, -, calls⟩ := unbatchedSlotFailures (pullupWaited s level (before ++ events) (.ok :: ws)) .rbyte rfl rfl
    h.pendEmpty
  obtain ⟨-, reads⟩ := calls h.alive h.notSuspect hf ws
  obtain ⟨-, timesOut⟩ := reads rs rfl (by decide)
  rw [exec_pullup_of_waited h hw, ← List.append_assoc]
  exact timesOut hr

end

/-! ## The wait with a pullup pin -/

/-- The element that sets the pullup pin (42_bitbyte.md R142). -/
def pullupElem (s : State) (q : Pin) (x : Bool) : Elem := .gpio (setPin s.level q x) s.dir

theorem setPullup_eq (q : Pin) (x : Bool) (s : State) :
    setPullup q x s = { s with level := setPin s.level q x, buf := s.buf ++ [pullupElem s q x] } := rfl

theorem fits_setPullup_iff {q : Pin} {x : Bool} {s : State} :
    fitsBatch (setPullup q x s) (setPullup q x s).buf.length ↔ fitsBatch s (s.buf.length + 1) := by
  rw [setPullup_eq, List.length_append]
  rfl

/-- The implicit batch that lowers the pullup pin, after the open batch was written with the pin raised and the host has
slept. -/
def loweringBatch (s : State) (q : Pin) (us : Nat) (ws : List WriteAnswer) : State :=
  { pullupWaited s (setPin s.level q false) (s.trace ++ [.txWrite (s.buf ++ [pullupElem s q true]), .sleep us]) ws with
    buf := [pullupElem s q false]
    collecting := true }

section
variable {s : State} {q : Pin} {ws : List WriteAnswer} (h : PullupReady s) (hq : s.cfgPullup = some q)
  (hf : fitsBatch s (s.buf.length + 1)) (us : Nat)

include hq in
theorem pullupWait_of_full (hf : ¬fitsBatch s (s.buf.length + 1)) :
    pullupWait us s = .stop .batchFull (setPullup q true s) := by
  simp only [pullupWait, hq, ifRoom_full flush (mt fits_setPullup_iff.mp hf), Res.andThen_stop]

include hq hf in
theorem pullupWait_of_pin :
    pullupWait us s = (flush (setPullup q true s)).andThen fun _ t =>
      ifRoom (setPullup q false { hostSleep us t with collecting := true }) flush := by
  simp only [pullupWait, hq, ifRoom_fits flush (fits_setPullup_iff.mpr hf)]

include h hq hf

/-- The write that raises the pin fails, and the pin's level bit stays 1 (93_implementation_defined.md I10). -/
theorem pullupWait_raiseFails (hw : s.writeAnswers = .usbErr :: ws) :
    pullupWait us s = .raise (usbError 1) { pullupWaited s (setPin s.level q true)
      (s.trace ++ [.txWrite (s.buf ++ [pullupElem s q true])]) ws with transportDead := true } := by
  have nonempty : (setPullup q true s).buf ≠ [] := List.append_ne_nil_of_right_ne_nil _ nofun
  rw [pullupWait_of_pin hq hf, flush_writeFails (setPullup q true s) ws nonempty hw]
  simp [setPullup_eq, pullupWaited, h.pendEmpty]

/-- Once the pin is raised, the host sleeps and lowers it in a write of its own. -/
theorem pullupWait_of_raised (hw : s.writeAnswers = .ok :: ws) :
    pullupWait us s = flush (loweringBatch s q us ws) := by
  have nonempty : (setPullup q true s).buf ≠ [] := List.append_ne_nil_of_right_ne_nil _ nofun
  have noSamples : nsamp (setPullup q true s).buf = 0 := by simp [setPullup_eq, pullupElem, h.noSamples, nsamp]
  have fits : fitsBatch (loweringBatch s q us ws) (loweringBatch s q us ws).buf.length :=
    overCapacity_mono (Nat.le_add_left 1 _) hf
  rw [pullupWait_of_pin hq hf, flush_write (setPullup q true s) ws nonempty noSamples hw, Res.andThen_ok,
    ← ifRoom_fits flush fits]
  simp [setPullup_eq, pullupElem, loweringBatch, pullupWaited, hostSleep, record, h.pendEmpty]

theorem pullupWait_lowerFails (hw : s.writeAnswers = .ok :: .usbErr :: ws) :
    pullupWait us s = .raise (usbError 1) { pullupWaited s (setPin s.level q false)
      (s.trace ++ [.txWrite (s.buf ++ [pullupElem s q true]), .sleep us, .txWrite [pullupElem s q false]]) ws with
      transportDead := true } := by
  rw [pullupWait_of_raised h hq hf us hw, flush_writeFails _ ws (List.cons_ne_nil _ _) rfl]
  simp [loweringBatch, pullupWaited, h.pendEmpty]

theorem pullupWait_lowers (hw : s.writeAnswers = .ok :: .ok :: ws) :
    pullupWait us s = .ok [] (pullupWaited s (setPin s.level q false)
      (s.trace ++ [.txWrite (s.buf ++ [pullupElem s q true]), .sleep us, .txWrite [pullupElem s q false]]) ws) := by
  rw [pullupWait_of_raised h hq hf us hw, flush_write _ ws (List.cons_ne_nil _ _) rfl rfl]
  simp [loweringBatch, pullupWaited, h.pendEmpty]

end

/-! ## The wait without a pullup pin -/

section
variable {s : State} {ws : List WriteAnswer} (h : PullupReady s) (hq : s.cfgPullup = none) (us : Nat)
include h hq

theorem pullupWait_writeFails (hb : s.buf ≠ []) (hw : s.writeAnswers = .usbErr :: ws) :
    pullupWait us s = .raise (usbError 1) { pullupWaited s s.level (s.trace ++ [.txWrite s.buf]) ws with
      transportDead := true } := by
  simp only [pullupWait, hq, flush_writeFails s ws hb hw, Res.andThen_raise, pullupWaited, h.pendEmpty]

/-- The open batch is written unless it is empty, and the host sleeps. -/
theorem pullupWait_flushes (hw : s.writeAnswers = (if s.buf = [] then [] else [.ok]) ++ ws) :
    pullupWait us s = .ok [] (pullupWaited s s.level
      (s.trace ++ (if s.buf = [] then [] else [.txWrite s.buf]) ++ [.sleep us]) ws) := by
  by_cases hb : s.buf = []
  · simp only [hb, if_true, List.nil_append] at hw
    simp only [pullupWait, hq, flush_empty s hb, Res.andThen_ok]
    simp [pullupWaited, hostSleep, record, hb, hw, hq, h.pendEmpty]
  · simp only [hb, if_false, List.singleton_append] at hw
    simp only [pullupWait, hq, flush_write s ws hb h.noSamples hw, Res.andThen_ok]
    simp [pullupWaited, hostSleep, record, hb, hq, h.pendEmpty]

end

/-! ## The statements -/

/-- Settles O35: the wait writes the raised and the lowered pin, and the completion read answers. -/
theorem pullupWithPinDrivesIt : Obligations.PullupWithPinDrivesIt := by
  intro s u q ws rs d x rest hc hp hn hd hs hf hf' hq hw hr hsamples
  have h : PullupReady s := ⟨hc, hp, hn, hd, hs⟩
  exact exec_pullup_of_completion h hf' (pullupWait_lowers h hq hf _ hw) hr hsamples

/-- Without a pullup pin the first answer is that to the write of the batch, where it is not empty. -/
theorem answers_of_written {s : State} {ws : List WriteAnswer}
    (hw : s.writeAnswers = (if s.buf = [] then [.ok] else [.ok, .ok]) ++ ws) :
    s.writeAnswers = (if s.buf = [] then [] else [.ok]) ++ .ok :: ws := by
  rw [hw]
  split <;> rfl

/-- Settles O36: the wait writes the batch, and the completion read answers. -/
theorem pullupWithoutPinFlushesAndSleeps : Obligations.PullupWithoutPinFlushesAndSleeps := by
  intro s u ws rs d x rest hc hp hn hd hs hf hq hw hr hsamples
  have h : PullupReady s := ⟨hc, hp, hn, hd, hs⟩
  exact exec_pullup_of_completion h hf (pullupWait_flushes h hq _ (answers_of_written hw)) hr hsamples

/-- Settles O37: each call of the wait fails, or one of the completion read, or a batch is full. -/
theorem pullupFailures : Obligations.PullupFailures := by
  intro s u ws rs hc hp hn hd hs
  have h : PullupReady s := ⟨hc, hp, hn, hd, hs⟩
  refine ⟨fun q hq hf hf' => ?_, fun hq hf => ?_, fun q hq hf => ?_, fun q hq hf hf' hw => ?_, fun hq hf hw => ?_⟩
  · exact ⟨fun hw => exec_pullup_of_waitRaises h (pullupWait_raiseFails h hq hf _ hw),
      fun hw => exec_pullup_of_waitRaises h (pullupWait_lowerFails h hq hf _ hw),
      fun hw => exec_pullup_of_completionWriteFails h hf' (pullupWait_lowers h hq hf _ hw),
      fun hw hr => exec_pullup_of_completionReadFails h hf' (pullupWait_lowers h hq hf _ hw) hr,
      fun hw hr => exec_pullup_of_completionTimesOut h hf' (pullupWait_lowers h hq hf _ hw) hr⟩
  · exact ⟨fun hb hw => exec_pullup_of_waitRaises h (pullupWait_writeFails h hq _ hb hw),
      fun hw => exec_pullup_of_completionWriteFails h hf (pullupWait_flushes h hq _ hw),
      fun hw hr => exec_pullup_of_completionReadFails h hf (pullupWait_flushes h hq _ (answers_of_written hw)) hr,
      fun hw hr => exec_pullup_of_completionTimesOut h hf (pullupWait_flushes h hq _ (answers_of_written hw)) hr⟩
  · simp only [exec_pullup_of_ready h, pullupWait_of_full hq _ hf, Res.andThen_stop, finish_stop]
  · exact exec_pullup_of_completionFull h hf' (pullupWait_lowers h hq hf _ hw)
  · exact exec_pullup_of_completionFull h hf (pullupWait_flushes h hq _ hw)

end Sys2Proof.Machine
end

section
/-! PROOF. The CRC over a message: the update is linear and loses no bit, so that the trailing CRC cancels and a changed
byte shows (43_crc.md R171-R178). -/

namespace Sys2Proof.Machine

section
variable {w : Nat} {poly : BitVec w}

/-! ## One step of the byte update (43_crc.md R173) -/

/-- The running value after one bit of the byte (43_crc.md R173). -/
def crcShift (poly c : BitVec w) (b : Bool) : BitVec w :=
  if b != c.getLsbD 0 then (c >>> 1) ^^^ poly else c >>> 1

theorem crcBits_succ (k : Nat) (c : BitVec w) (d : Byte) :
    crcBits poly (k + 1) c d = crcBits poly k (crcShift poly c (d.getLsbD 0)) (d >>> 1) := rfl

theorem crcShift_eq_xor_ite (c : BitVec w) (b : Bool) :
    crcShift poly c b = (c >>> 1) ^^^ (if b != c.getLsbD 0 then poly else 0#w) := by
  rw [crcShift]
  split <;> simp

theorem crcShift_of_bit_eq {c : BitVec w} {b : Bool} (h : b = c.getLsbD 0) : crcShift poly c b = c >>> 1 := by
  simp [crcShift, h]

/-- The polynomial is taken where exactly one of the two steps takes it. -/
theorem crcShift_xor (a c : BitVec w) (x y : Bool) :
    crcShift poly (a ^^^ c) (x ^^ y) = crcShift poly a x ^^^ crcShift poly c y := by
  have test : ((x ^^ y) != (a ^^^ c).getLsbD 0) = ((x != a.getLsbD 0) ^^ (y != c.getLsbD 0)) := by
    simp only [BitVec.getLsbD_xor, Bool.bne_eq_xor, Bool.xor_assoc, Bool.xor_left_comm y]
  have taken (t u : Bool) :
      (if t ^^ u then poly else 0#w) = (if t then poly else 0#w) ^^^ (if u then poly else 0#w) := by
    cases t <;> cases u <;> simp
  simp only [crcShift_eq_xor_ite, test, taken, BitVec.ushiftRight_xor_distrib]
  ac_rfl

theorem msb_crcShift (hp : poly.msb = true) (c : BitVec w) (b : Bool) :
    (crcShift poly c b).msb = (b != c.getLsbD 0) := by
  rw [crcShift_eq_xor_ite, BitVec.msb_xor, BitVec.msb_ushiftRight]
  split <;> simp_all

theorem eq_of_shiftRight_one_eq {a c : BitVec w} (low : a.getLsbD 0 = c.getLsbD 0) (high : a >>> 1 = c >>> 1) :
    a = c := by
  refine BitVec.eq_of_getLsbD_eq fun j _ => ?_
  cases j with
  | zero => exact low
  | succ j => simpa [Nat.add_comm] using congrArg (·.getLsbD j) high

/-- Whether a step took the polynomial is its highest bit, so the step can be undone. -/
theorem crcShift_injective (hp : poly.msb = true) (b : Bool) : Function.Injective (crcShift poly · b) := by
  intro a c h
  have test : (b != a.getLsbD 0) = (b != c.getLsbD 0) := by
    rw [← msb_crcShift hp, ← msb_crcShift hp]
    exact congrArg BitVec.msb h
  refine eq_of_shiftRight_one_eq (by simpa using test) ?_
  simpa [crcShift_eq_xor_ite, test] using h

/-! ## The byte update (43_crc.md R173) -/

theorem crcBits_eq_foldl (k : Nat) (c : BitVec w) (d : Byte) :
    crcBits poly k c d = (List.range k).foldl (fun c j => crcShift poly c (d.getLsbD j)) c := by
  induction k generalizing c d with
  | zero => rfl
  | succ k ih =>
    rw [crcBits_succ, ih, List.range_succ_eq_map, List.foldl_cons, List.foldl_map]
    simp [Nat.add_comm]

theorem crcByte_eq_foldl (c : BitVec w) (d : Byte) :
    crcByte poly c d = (List.range 8).foldl (fun (c : BitVec w) (k : Nat) =>
      if d.getLsbD k ≠ c.getLsbD 0 then (c >>> 1) ^^^ poly else c >>> 1) c := by
  rw [crcByte, crcBits_eq_foldl]
  simp only [crcShift, bne_iff_ne]

theorem crcBits_xor (k : Nat) (a c : BitVec w) (d e : Byte) :
    crcBits poly k (a ^^^ c) (d ^^^ e) = crcBits poly k a d ^^^ crcBits poly k c e := by
  induction k generalizing a c d e with
  | zero => rfl
  | succ k ih => simp only [crcBits_succ, BitVec.getLsbD_xor, BitVec.ushiftRight_xor_distrib, crcShift_xor, ih]

theorem crcBits_injective (hp : poly.msb = true) (k : Nat) (d : Byte) : Function.Injective (crcBits poly k · d) := by
  induction k generalizing d with
  | zero => exact fun _ _ h => h
  | succ k ih => exact (ih (d >>> 1)).comp (crcShift_injective hp (d.getLsbD 0))

/-- Where the byte's bits are those of the running value, no step takes the polynomial. -/
theorem crcBits_of_bits_eq {k : Nat} {c : BitVec w} {d : Byte} (h : ∀ j < k, d.getLsbD j = c.getLsbD j) :
    crcBits poly k c d = c >>> k := by
  induction k generalizing c d with
  | zero => rfl
  | succ k ih =>
    rw [crcBits_succ, crcShift_of_bit_eq (h 0 k.succ_pos), ih, ← BitVec.shiftRight_add, Nat.add_comm]
    intro j hj
    simpa using h (1 + j) (by omega)

theorem crcByte_xor (a c : BitVec w) (d e : Byte) :
    crcByte poly (a ^^^ c) (d ^^^ e) = crcByte poly a d ^^^ crcByte poly c e := crcBits_xor 8 a c d e

theorem crcByte_xor_byte (c : BitVec w) (d e : Byte) :
    crcByte poly c (d ^^^ e) = crcByte poly c d ^^^ crcByte poly 0#w e := by
  simpa using crcByte_xor (poly := poly) c 0#w d e

/-- The low byte of the running value, fed in, is shifted out. -/
theorem crcByte_lowByte (c : BitVec w) : crcByte poly c (c.extractLsb' 0 8) = c >>> 8 :=
  crcBits_of_bits_eq fun j hj => by simp [hj]

theorem crcByte_setWidth_self (hw : 8 ≤ w) (d : Byte) : crcByte poly (d.setWidth w) d = 0#w := by
  have low : (d.setWidth w).extractLsb' 0 8 = d := by simp [BitVec.extractLsb'_setWidth_of_le, hw]
  calc crcByte poly (d.setWidth w) d
      = (d.setWidth w) >>> 8 := by simpa only [low] using crcByte_lowByte (poly := poly) (d.setWidth w)
    _ = 0#w := by
      ext
      simp

/-- Feeding a byte is XORing it into the running value and feeding 0. -/
theorem crcByte_eq_xor (hw : 8 ≤ w) (c : BitVec w) (d : Byte) :
    crcByte poly c d = crcByte poly (c ^^^ d.setWidth w) 0#8 := by
  have h := crcByte_xor (poly := poly) (c ^^^ d.setWidth w) (d.setWidth w) 0#8 d
  simpa [crcByte_setWidth_self hw, BitVec.xor_assoc] using h

theorem crcByte_byte_injective (hw : 8 ≤ w) (hp : poly.msb = true) (c : BitVec w) :
    Function.Injective (crcByte poly c) := by
  intro d e h
  rw [crcByte_eq_xor hw c d, crcByte_eq_xor hw c e] at h
  have same : d.setWidth w = e.setWidth w := (BitVec.xor_right_inj c).1 (crcBits_injective hp 8 0#8 h)
  simpa [hw] using congrArg (BitVec.setWidth 8) same

/-! ## The running value over a message (43_crc.md R179) -/

theorem crcFrom_append (c : BitVec w) (p q : List Byte) :
    crcFrom poly c (p ++ q) = crcFrom poly (crcFrom poly c p) q := by
  induction p generalizing c with
  | nil => rfl
  | cons d p ih => exact ih (crcByte poly c d)

theorem crcFrom_injective (hp : poly.msb = true) (m : List Byte) : Function.Injective (crcFrom poly · m) := by
  induction m with
  | nil => exact fun _ _ h => h
  | cons d m ih => exact ih.comp (crcBits_injective hp 8 d)

/-- A message with one byte changed, whichever bits of it, has another CRC. -/
theorem crcFrom_set_ne (hw : 8 ≤ w) (hp : poly.msb = true) {m : List Byte} {i : Nat} {d e : Byte}
    (hd : m[i]? = some d) (he : e ≠ d) (c : BitVec w) : crcFrom poly c (m.set i e) ≠ crcFrom poly c m := by
  induction m generalizing i c with
  | nil => cases hd
  | cons b m ih =>
    cases i with
    | zero =>
      obtain rfl : b = d := by simpa using hd
      exact fun h => he (crcByte_byte_injective hw hp c (crcFrom_injective hp m h))
    | succ i => exact ih (by simpa using hd) (crcByte poly c b)

end

/-! ## A message with its trailing CRC (43_crc.md R177, R178) -/

theorem crc8_append_self (p : List Byte) : crc8 (p ++ [crc8 p]) = 0#8 := by
  rw [crc8, crcFrom_append]
  exact crcByte_setWidth_self le_rfl (crc8 p)

/-- The two bytes of the running value, low byte first, cancel it; the bits of e flipped in both are fed to 0. -/
theorem crcByte_crcByte_xor (poly c : BitVec 16) (e : Byte) :
    crcByte poly (crcByte poly c (c.extractLsb' 0 8 ^^^ e)) (c.extractLsb' 8 8 ^^^ e) =
      crcByte poly (crcByte poly 0#16 e) e := by
  have high : c >>> 8 = (c.extractLsb' 8 8).setWidth 16 := by
    apply BitVec.eq_of_toNat_eq
    simp only [BitVec.toNat_ushiftRight, Nat.shiftRight_eq_div_pow, Nat.reducePow, BitVec.toNat_setWidth,
      BitVec.extractLsb'_toNat]
    omega
  rw [crcByte_xor_byte c, crcByte_lowByte, high, crcByte_xor, crcByte_setWidth_self (by decide), BitVec.zero_xor]

theorem crc16_append_xor (p : List Byte) (e : Byte) :
    crc16 (p ++ [(crc16 p).extractLsb' 0 8 ^^^ e, (crc16 p).extractLsb' 8 8 ^^^ e]) = crc16 [e, e] := by
  rw [crc16, crcFrom_append]
  exact crcByte_crcByte_xor poly16 (crc16 p) e

theorem crc16_append_self (p : List Byte) :
    crc16 (p ++ [(crc16 p).extractLsb' 0 8, (crc16 p).extractLsb' 8 8]) = 0#16 := by
  have h := crc16_append_xor p 0#8
  rw [BitVec.xor_zero, BitVec.xor_zero] at h
  exact h.trans (by decide +kernel)

/-- Settles O41: the trailing bytes shift the running value out, and what inverts them reduces as a message would. -/
theorem trailingCrcReducesToZero : Obligations.TrailingCrcReducesToZero := by
  intro p
  refine ⟨crc8_append_self p, crc16_append_self p, ?_⟩
  exact (crc16_append_xor p 0xFF#8).trans (by decide +kernel)

theorem xor_one_shiftLeft_ne (d : Byte) (k : Fin 8) : d ^^^ (1#8 <<< k.val) ≠ d := by
  have flips : 1#8 <<< k.val ≠ 0#8 := by decide +revert
  simpa using flips

/-- Settles O42: the message itself reduces to 0, and no changed byte leaves the residue as it was. -/
theorem singleBitFlipIsDetected : Obligations.SingleBitFlipIsDetected := by
  intro p i k
  constructor
  · rintro m rfl d hd
    rw [← crc8_append_self p]
    exact crcFrom_set_ne le_rfl rfl hd (xor_one_shiftLeft_ne d k) 0#8
  · rintro m rfl d hd
    rw [← crc16_append_self p]
    exact crcFrom_set_ne (by decide) rfl hd (xor_one_shiftLeft_ne d k) 0#16

/-- Settles O39: for every polynomial the loop is a fold over the bits of the byte. -/
theorem crcByteUpdate : Obligations.CrcByteUpdate := ⟨crcByte_eq_foldl, crcByte_eq_foldl⟩

/-! ## The commands (43_crc.md R172, R174-R176) -/

theorem crcNext_crc8 (acc : Half) (d : Byte) :
    crcNext .crc8 acc d = 0#8 ++ crcByte poly8 (acc.extractLsb' 0 8) d :=
  BitVec.setWidth_eq_append (by decide)

theorem exec_crcc_of_zero {s : State} (h : s.crcAcc = 0#16) : exec .crcc s = .next (respond .ok [] s) := by
  rw [exec, execCrcc, if_neg (not_not.mpr h), finish_ok]

theorem exec_crcc_of_ne_zero {s : State} (h : s.crcAcc ≠ 0#16) :
    exec .crcc s = .next (respond .crc [.num s.crcAcc.toNat] s) := by
  rw [exec, execCrcc, if_pos h, finish_raise]

/-- Settles O38: each command's own equation, CRCB's by the width in force and CRCC's by the accumulator. -/
theorem crcCommandsAnswer : Obligations.CrcCommandsAnswer := by
  intro s
  refine ⟨fun w => exec_crci w s, fun d hw => ?_, fun d hw => ?_, exec_crcr s,
    exec_crcc_of_zero, exec_crcc_of_ne_zero⟩
  · rw [exec_crcb, hw, crcNext_crc8]
    rfl
  · rw [exec_crcb, hw]
    rfl

end Sys2Proof.Machine
end

section
/-! PROOF. SEARCH where the transport answers: the slots of a pass, one level by its poll, and the search of an empty bus
(44_search.md R190-R195). -/

namespace Sys2Proof.Machine

/-! ## Slots whose calls are answered (41_batch.md R124) -/

/-- The state after slot commands outside a batch that made these events and left these answers. -/
def slotsRun (s : State) (events : List Event) (ws : List WriteAnswer) (rs : List ReadKind) (rest : List Bool) : State :=
  { s with
    level := setPin s.level s.cfgDataPin true
    dir := setPin s.dir s.cfgDataPin false
    busPhase := .active
    trace := s.trace ++ events
    writeAnswers := ws
    readAnswers := rs
    samples := rest }

section
variable (s : State) (events : List Event) (ws : List WriteAnswer) (rs : List ReadKind) (rest : List Bool)

@[simp] theorem slotsRun_params : (slotsRun s events ws rs rest).params = s.params := rfl
@[simp] theorem slotsRun_writeAnswers : (slotsRun s events ws rs rest).writeAnswers = ws := rfl
@[simp] theorem slotsRun_readAnswers : (slotsRun s events ws rs rest).readAnswers = rs := rfl
@[simp] theorem slotsRun_samples : (slotsRun s events ws rs rest).samples = rest := rfl

@[simp] theorem slotsRun_slotsRun (events' : List Event) (ws' : List WriteAnswer) (rs' : List ReadKind)
    (rest' : List Bool) :
    slotsRun (slotsRun s events ws rs rest) events' ws' rs' rest' = slotsRun s (events ++ events') ws' rs' rest' := by
  simp [slotsRun]

@[simp] theorem lowElem_slotsRun : lowElem (slotsRun s events ws rs rest) = lowElem s := by simp [lowElem, slotsRun]
@[simp] theorem relElem_slotsRun : relElem (slotsRun s events ws rs rest) = relElem s := by simp [relElem, slotsRun]
@[simp] theorem delayIn_slotsRun : delayIn (slotsRun s events ws rs rest) = delayIn s := rfl

@[simp] theorem writeElems_slotsRun : writeElems (slotsRun s events ws rs rest) = writeElems s :=
  funext fun b => by simp [writeElems]
@[simp] theorem readElems_slotsRun : readElems (slotsRun s events ws rs rest) = readElems s := by simp [readElems]
@[simp] theorem resetElems_slotsRun : resetElems (slotsRun s events ws rs rest) = resetElems s := by simp [resetElems]
@[simp] theorem writeByteElems_slotsRun : writeByteElems (slotsRun s events ws rs rest) = writeByteElems s :=
  funext fun d => by simp [writeByteElems]

end

theorem Idle.slotsRun {s : State} (hi : Idle s) (events : List Event) (ws : List WriteAnswer) (rs : List ReadKind)
    (rest : List Bool) : Idle (slotsRun s events ws rs rest) := ⟨hi.idle, hi.bufEmpty, hi.pendEmpty, hi.alive⟩

section
variable {s : State} {ws : List WriteAnswer} {rs : List ReadKind} {rest : List Bool} (hi : Idle s)
include hi

theorem implicitBatch_of_idle {c : SlotCommand} (hf : fitsBatch s c.total) :
    implicitBatch c.body s = flush (c.batch s) := by
  rw [implicitBatch, if_neg (by simp [hi.alive]), SlotCommand.body_of_empty hi.bufEmpty hi.pendEmpty,
    ifRoom_fits flush (SlotCommand.fits_batch_iff.mpr hf)]

/-- A slot command without samples makes one write. -/
theorem implicitBatch_of_written {c : SlotCommand} (hf : fitsBatch s c.total) (hn : c.sampleCount = 0)
    (hw : s.writeAnswers = .ok :: ws) :
    implicitBatch c.body s = .ok [] (slotsRun s [.txWrite (c.elems s)] ws s.readAnswers s.samples) := by
  rw [implicitBatch_of_idle hi hf, flush_write (c.batch s) ws (c.elems_ne_nil s) ((c.nsamp_elems s).trans hn) hw]
  simp [slotsRun, SlotCommand.batch, hi.idle, hi.bufEmpty, hi.pendEmpty]

theorem writeBit_of_answer (b : Bool) (hf : fitsBatch s 4) (hw : s.writeAnswers = .ok :: ws) :
    implicitBatch (wbitBody b) s = .ok [] (slotsRun s [.txWrite (writeElems s b)] ws s.readAnswers s.samples) :=
  implicitBatch_of_written (c := .wbit b) hi hf rfl hw

/-- A poll is one write and one read, whose first sample is its value (42_bitbyte.md R155). -/
theorem pollBit_of_answers {a x : Bool} (hf : fitsBatch s 7) (hw : s.writeAnswers = .ok :: ws)
    (hr : s.readAnswers = .bits :: rs) (hs : s.samples = a :: x :: rest) :
    pollBit s = .ok a (slotsRun s [.txWrite (readElems s), .txRead 2 (.bits [a, x])] ws rs rest) := by
  have run : implicitBatch rbitBody s =
      .ok [a.toNat] (slotsRun s [.txWrite (readElems s), .txRead 2 (.bits [a, x])] ws rs rest) := by
    rw [show rbitBody = SlotCommand.rbit.body from rfl, implicitBatch_of_idle (c := .rbit) hi hf,
      flush_read (SlotCommand.rbit.batch s) ws rs [a, x] rest (List.cons_ne_nil _ _) (Nat.succ_ne_zero 1) rfl hw hr hs]
    simp [slotsRun, SlotCommand.batch, SlotCommand.elems, SlotCommand.pending, resolve, nsamp_readElems, hi.idle,
      hi.bufEmpty, hi.pendEmpty]
  rw [pollBit, run]
  cases a <;> rfl

end

/-! ## One level of a pass (44_search.md R191-R195) -/

/-- What a level does with its poll: the rest of the pseudocode of R191. -/
def actOn (P : List Bool) (n : Nat) (cur : List Bool) (stack : List (List Bool)) (a c : Bool) (s : State) :
    LevelChoice → Res (Option (List Bool) × List (List Bool))
  | .comms => .raise (commsError cur.length a c) s
  | .pathEmpty => .ok (none, stack) s
  | .take b => (implicitBatch (wbitBody b) s).andThen fun _ t => searchLevels P n (cur ++ [b]) stack t
  | .fork => (implicitBatch (wbitBody false) s).andThen fun _ t =>
      searchLevels P n (cur ++ [false]) ((cur ++ [true]) :: stack) t

theorem searchLevels_succ (P : List Bool) (n : Nat) (cur : List Bool) (stack : List (List Bool)) (s : State) :
    searchLevels P (n + 1) cur stack s = (pollBit s).andThen fun a t => (pollBit t).andThen fun c u =>
      actOn P n cur stack a c u (chooseLevel P cur.length a c) := by
  rw [searchLevels]
  refine congrArg (pollBit s).andThen (funext fun a => funext fun t => congrArg (pollBit t).andThen
    (funext fun c => funext fun u => ?_))
  cases chooseLevel P cur.length a c <;> rfl

theorem chooseLevel_of_replay {P : List Bool} {i : Nat} {b : Bool} (h : P[i]? = some b) (a c : Bool) :
    chooseLevel P i a c = if (b = false ∧ a = true) ∨ (b = true ∧ c = true) then .comms else .take b := by
  simp [chooseLevel, h]

theorem chooseLevel_of_new {P : List Bool} {i : Nat} (h : P.length ≤ i) (a c : Bool) :
    chooseLevel P i a c = if a ≠ c then .take a else if a = false then .fork
      else if P = [] ∧ i = 0 then .pathEmpty else .comms := by
  simp [chooseLevel, List.getElem?_eq_none h]

/-- The two polls of a level: their events, and what is left of the scripts. -/
def pollEvents (s : State) (a x c y : Bool) : List Event :=
  [.txWrite (readElems s), .txRead 2 (.bits [a, x]), .txWrite (readElems s), .txRead 2 (.bits [c, y])]

@[simp] theorem pollEvents_slotsRun (s : State) (events : List Event) (ws : List WriteAnswer) (rs : List ReadKind)
    (rest : List Bool) : pollEvents (slotsRun s events ws rs rest) = pollEvents s := by
  funext a x c y
  simp [pollEvents]

section
variable {s : State} {P cur : List Bool} {n : Nat} {stack : List (List Bool)} {a x c y : Bool} {ws : List WriteAnswer}
  {rs : List ReadKind} {rest : List Bool} (hi : Idle s) (hf : fitsBatch s 7) (hr : s.readAnswers = .bits :: .bits :: rs)
  (hs : s.samples = a :: x :: c :: y :: rest)
include hi hf hr hs

theorem searchLevels_of_polls (hw : s.writeAnswers = .ok :: .ok :: ws) :
    searchLevels P (n + 1) cur stack s =
      actOn P n cur stack a c (slotsRun s (pollEvents s a x c y) ws rs rest) (chooseLevel P cur.length a c) := by
  rw [searchLevels_succ, pollBit_of_answers hi hf hw hr hs, Res.andThen_ok,
    pollBit_of_answers (hi.slotsRun _ _ _ _) hf rfl rfl rfl, Res.andThen_ok]
  simp [pollEvents]

/-- A first poll that no device answers. -/
theorem searchLevels_of_pathEmpty (hw : s.writeAnswers = .ok :: .ok :: ws) {N : Nat} (hN : 0 < N)
    (h : chooseLevel P cur.length a c = .pathEmpty) :
    searchLevels P N cur stack s = .ok (none, stack) (slotsRun s (pollEvents s a x c y) ws rs rest) := by
  obtain ⟨n, rfl⟩ := Nat.exists_eq_add_one.mpr hN
  rw [searchLevels_of_polls hi hf hr hs hw, h, actOn]

/-- A level that writes the bit b back. -/
theorem searchLevels_of_take {b : Bool} (hw : s.writeAnswers = .ok :: .ok :: .ok :: ws)
    (h : chooseLevel P cur.length a c = .take b) :
    searchLevels P (n + 1) cur stack s = searchLevels P n (cur ++ [b]) stack
      (slotsRun s (pollEvents s a x c y ++ [.txWrite (writeElems s b)]) ws rs rest) := by
  rw [searchLevels_of_polls hi hf hr hs hw, h, actOn,
    writeBit_of_answer (hi.slotsRun _ _ _ _) b (overCapacity_mono (by decide) hf) rfl, Res.andThen_ok]
  simp

/-- A level that pushes the branch of 1 and writes 0 back. -/
theorem searchLevels_of_fork (hw : s.writeAnswers = .ok :: .ok :: .ok :: ws)
    (h : chooseLevel P cur.length a c = .fork) :
    searchLevels P (n + 1) cur stack s = searchLevels P n (cur ++ [false]) ((cur ++ [true]) :: stack)
      (slotsRun s (pollEvents s a x c y ++ [.txWrite (writeElems s false)]) ws rs rest) := by
  rw [searchLevels_of_polls hi hf hr hs hw, h, actOn,
    writeBit_of_answer (hi.slotsRun _ _ _ _) false (overCapacity_mono (by decide) hf) rfl, Res.andThen_ok]
  simp

end

/-- Settles O43: the poll decides by the remembered bit or by the rules of a new level, and each choice has its own end
of the level. -/
theorem searchLevelFollowsThePoll : Obligations.SearchLevelFollowsThePoll := by
  refine ⟨fun P i => ⟨fun b hb => ?_, fun hl => ?_⟩, ?_⟩
  · simp only [chooseLevel_of_replay hb]
    cases b <;> decide
  · simp [chooseLevel_of_new hl]
  · rintro s u P cur n stack a x c y ws rs rest hi hf hw hr hs rfl
    refine ⟨fun h => ?_, fun h => ?_, fun b ws' hws => ⟨fun h => ?_, fun h => ?_⟩⟩
    · rw [searchLevels_of_polls hi hf hr hs hw, h]
      rfl
    · exact searchLevels_of_pathEmpty hi hf hr hs hw n.succ_pos h
    · rw [searchLevels_of_take hi hf hr hs (hws ▸ hw) h]
      simp [slotsRun, pollEvents]
    · rw [searchLevels_of_fork hi hf hr hs (hws ▸ hw) h]
      simp [slotsRun, pollEvents]

/-! ## A pass and the loop (44_search.md R190, R191) -/

theorem resetBody_of_absent {s t : State} (h : resetOnce s = .ok false t) (hm : t.mode = .std) :
    resetBody s = .ok false (setPresence false t) := by
  rw [resetBody, h, Res.andThen_ok, if_neg (by simp [hm])]

/-- In overdrive, without presence, the reset of a pass is that of one retry. -/
theorem resetBody_of_fallback {s : State} {ws : List WriteAnswer} {rs : List ReadKind} {rest : List Bool}
    (hi : Idle s) (hm : s.mode = .od) (hf : fitsBatch s 7) (hw : s.writeAnswers = .ok :: ws)
    (hr : s.readAnswers = .bits :: rs) (hs : s.samples = true :: true :: rest) :
    resetBody s = (resetOnce (fallbackState s ws rs rest)).andThen fun p t => .ok p (setPresence p t) := by
  rw [resetBody, resetOnce_of_answers hi hf hw hr hs, Res.andThen_ok, if_pos ⟨rfl, hm⟩]
  rfl

theorem searchPass_of_absent {s t : State} (P : List Bool) (stack : List (List Bool)) (h : resetBody s = .ok false t) :
    searchPass P stack s = .ok (none, stack) t := by
  rw [searchPass, h, Res.andThen_ok, if_pos rfl]

/-- The state after a reset that a device answers. -/
def presentState (s : State) (ws : List WriteAnswer) (rs : List ReadKind) (rest : List Bool) : State :=
  setPresence true (slotsRun { s with busSuspect := false } [.txWrite (resetElems s), .txRead 2 (.bits [false, true])]
    ws rs rest)

theorem resetBody_of_present {s : State} {ws : List WriteAnswer} {rs : List ReadKind} {rest : List Bool}
    (hi : Idle s) (hf : fitsBatch s 7) (hw : s.writeAnswers = .ok :: ws) (hr : s.readAnswers = .bits :: rs)
    (hs : s.samples = false :: true :: rest) : resetBody s = .ok true (presentState s ws rs rest) :=
  (resetBody_of_presence (resetOnce_of_answers hi hf hw hr hs)).trans rfl

/-- The events of a pass before its first level, on a bus where a device answers the reset. -/
def startEvents (s : State) : List Event :=
  [.txWrite (resetElems s), .txRead 2 (.bits [false, true]), .txWrite (writeByteElems s s.params.searchCmd)]

/-- The state at the first level of a pass: a device has answered the reset, and the search command is written. -/
def passStart (s : State) (ws : List WriteAnswer) (rs : List ReadKind) (rest : List Bool) : State :=
  slotsRun { s with busSuspect := false } (startEvents s) ws rs rest

theorem passStart_idle {s : State} (hi : Idle s) (ws : List WriteAnswer) (rs : List ReadKind) (rest : List Bool) :
    Idle (passStart s ws rs rest) := ⟨hi.idle, hi.bufEmpty, hi.pendEmpty, hi.alive⟩

/-- The search command is written after the reset. -/
theorem searchCmd_of_present {s : State} {ws : List WriteAnswer} {rs : List ReadKind} {rest : List Bool} (hi : Idle s)
    (hf : fitsBatch s 32) :
    implicitBatch (wbyteBody s.params.searchCmd) (presentState s (.ok :: ws) rs rest) =
      .ok [] (passStart s ws rs rest) := by
  have idle : Idle (presentState s (.ok :: ws) rs rest) := ⟨hi.idle, hi.bufEmpty, hi.pendEmpty, hi.alive⟩
  have same : writeByteElems (presentState s (.ok :: ws) rs rest) = writeByteElems s :=
    writeByteElems_slotsRun { s with busSuspect := false } (startEvents s) (.ok :: ws) rs rest
  have run := implicitBatch_of_written (c := .wbyte s.params.searchCmd) idle hf rfl rfl
  rw [SlotCommand.elems, same] at run
  refine run.trans (congrArg (Res.ok []) ?_)
  simp [presentState, setPresence, passStart, slotsRun, startEvents]

/-- A pass that a device answers ends as its levels do: without a code, or with the check of the code. -/
theorem searchPass_of_levels {s t : State} {N : Nat} {P : List Bool} {stack : List (List Bool)}
    {out : Option (List Bool) × List (List Bool)} {ws : List WriteAnswer} {rs : List ReadKind} {rest : List Bool}
    (hi : Idle s) (hf : fitsBatch s 32) (hw : s.writeAnswers = .ok :: .ok :: ws) (hr : s.readAnswers = .bits :: rs)
    (hs : s.samples = false :: true :: rest) (hN : s.params.romBits = N)
    (h : searchLevels P N [] stack (passStart s ws rs rest) = .ok out t) :
    searchPass P stack s = out.1.elim (.ok (none, out.2) t) fun cur => checkCode (packCode cur) out.2 t := by
  have levels : searchLevels P (passStart s ws rs rest).params.romBits [] stack (passStart s ws rs rest) = .ok out t :=
    hN ▸ h
  rw [searchPass, resetBody_of_present hi (overCapacity_mono (by decide) hf) hw hr hs, Res.andThen_ok,
    if_neg (by decide), show (presentState s (.ok :: ws) rs rest).params = s.params from rfl,
    searchCmd_of_present hi hf, Res.andThen_ok, levels, Res.andThen_ok]
  cases out with | mk found stack' => cases found <;> rfl

theorem checkCode_of_valid {code : List Byte} (h : crc8 code = 0#8) (stack : List (List Bool)) (s : State) :
    checkCode code stack s = .ok (some code, stack) s := by
  rw [checkCode, if_neg (not_not.mpr h)]

theorem searchLoop_nil (fuel : Nat) (results : List (List Byte)) (s : State) :
    searchLoop fuel [] results s = .ok results s := by
  cases fuel <;> rfl

theorem searchLoop_of_none {P : List Bool} {stack stack' : List (List Bool)} {s t : State}
    (h : searchPass P stack s = .ok (none, stack') t) (fuel : Nat) (results : List (List Byte)) :
    searchLoop (fuel + 1) (P :: stack) results s = searchLoop fuel stack' results t := by
  rw [searchLoop, h, Res.andThen_ok]

theorem searchLoop_of_code {P : List Bool} {stack stack' : List (List Bool)} {code : List Byte} {s t : State}
    (h : searchPass P stack s = .ok (some code, stack') t) (fuel : Nat) {results : List (List Byte)}
    (hr : fitsResults t (results.length + 1)) :
    searchLoop (fuel + 1) (P :: stack) results s = searchLoop fuel stack' (results ++ [code]) t := by
  rw [searchLoop, h, Res.andThen_ok]
  exact if_neg (Bool.eq_false_iff.mp hr)

theorem exec_search_of_alive {s : State} (hc : s.collecting = false) (hd : s.transportDead = false) :
    exec .search s = finish ((searchLoop (searchFuel s.params) [[]] [] s).andThen
      fun codes t => .ok (codes.map .rom) t) := by
  simp [exec, execSearch, searchCommand, hc, hd]

theorem exec_search_of_loop {s t : State} {codes : List (List Byte)} (hi : Idle s)
    (h : searchLoop (searchFuel s.params) [[]] [] s = .ok codes t) :
    exec .search s = .next (respond .ok (codes.map .rom) t) := by
  rw [exec_search_of_alive hi.idle hi.alive, h, Res.andThen_ok, finish_ok]

/-! ## An empty bus (44_search.md R190, R195) -/

/-- A first pass without a code and without a fork ends the search. -/
theorem exec_search_of_emptyPass {s t : State} (hi : Idle s) (h : searchPass [] [] s = .ok (none, []) t) :
    exec .search s = .next (respond .ok [] t) := by
  obtain ⟨fuel, hfuel⟩ : ∃ fuel, searchFuel s.params = fuel + 1 := Nat.exists_eq_add_one.mpr (Nat.two_pow_pos _)
  refine exec_search_of_loop (codes := []) hi ?_
  rw [hfuel, searchLoop_of_none h, searchLoop_nil]

/-- Settles O47: the first pass ends at its reset, after the fallback in overdrive, or at its first poll. -/
theorem searchOfEmptyBusIsEmpty : Obligations.SearchOfEmptyBusIsEmpty := by
  intro s ws rs rest hi hf
  have hf7 : fitsBatch s 7 := overCapacity_mono (by decide) hf
  refine ⟨fun hm hw hr hs => ?_, fun hm hw hr hs => ?_, fun a c hN hw hr hs => ?_⟩
  · have absent := resetBody_of_absent (resetOnce_of_answers hi hf7 hw hr hs) hm
    exact exec_search_of_emptyPass hi (searchPass_of_absent [] [] absent)
  · have retry := resetOnce_of_answers (fallbackState_idle hi (.ok :: ws) (.bits :: rs) (true :: true :: rest)) hf7 rfl
      rfl rfl
    have absent := (resetBody_of_fallback hi hm hf7 hw hr hs).trans (congrArg (Res.andThen · _) retry)
    rw [exec_search_of_emptyPass hi (searchPass_of_absent [] [] absent), resetElems_fallbackState]
    simp [respond, setPresence, fallbackState]
  · have levels := searchLevels_of_pathEmpty (P := []) (cur := []) (stack := [])
      (passStart_idle hi (.ok :: .ok :: ws) (.bits :: .bits :: rs) (true :: a :: true :: c :: rest)) hf7 rfl rfl rfl hN rfl
    rw [exec_search_of_emptyPass hi (searchPass_of_levels hi hf hw hr hs rfl levels)]
    simp [respond, passStart, slotsRun, startEvents, pollEvents, readElems, lowElem, relElem, delayIn]

end Sys2Proof.Machine
end

section
/-! PROOF. SEARCH for every sequence of answers: what a pass pushes, the bound on the passes, and the codes and errors it can
answer with (44_search.md R196, R199, R200, R202). -/

namespace Sys2Proof.Machine

theorem Res.andThen_eq_ok {α β : Type} {r : Res α} {k : α → State → Res β} {b : β} {t : State}
    (h : r.andThen k = .ok b t) : ∃ a u, r = .ok a u ∧ k a u = .ok b t := by
  cases r with
  | ok a u => exact ⟨a, u, rfl, h⟩
  | raise e u => cases h
  | stop r u => cases h

/-! ## What a pass pushes (44_search.md R199) -/

/-- `stack'` is `stack` with paths on it whose lengths strictly decrease from the top and lie above `low`, up to `high`. -/
def PushesOnto (low high : Nat) (stack stack' : List (List Bool)) : Prop :=
  ∃ pushed, stack' = pushed ++ stack ∧ (pushed.map List.length).Pairwise (fun a b => b < a) ∧
    ∀ p ∈ pushed, low < p.length ∧ p.length ≤ high

theorem PushesOnto.refl (low high : Nat) (stack : List (List Bool)) : PushesOnto low high stack stack :=
  ⟨[], rfl, .nil, by simp⟩

theorem PushesOnto.mono {low low' high : Nat} {stack stack' : List (List Bool)} (h : PushesOnto low' high stack stack')
    (hl : low ≤ low') : PushesOnto low high stack stack' := by
  obtain ⟨pushed, hstack, hdec, hlen⟩ := h
  exact ⟨pushed, hstack, hdec, fun p hp => ⟨hl.trans_lt (hlen p hp).1, (hlen p hp).2⟩⟩

/-- A fork's path is pushed first, and the paths pushed after it are longer. -/
theorem PushesOnto.cons {low high : Nat} {p : List Bool} {stack stack' : List (List Bool)}
    (h : PushesOnto p.length high (p :: stack) stack') (hl : low < p.length) (hh : p.length ≤ high) :
    PushesOnto low high stack stack' := by
  obtain ⟨pushed, rfl, hdec, hlen⟩ := h
  refine ⟨pushed ++ [p], by simp, ?_, fun q hq => ?_⟩
  · rw [List.map_append, List.pairwise_append]
    refine ⟨hdec, List.pairwise_singleton _ _, fun a ha b hb => ?_⟩
    obtain ⟨q, hq, rfl⟩ := List.mem_map.mp ha
    obtain rfl := List.mem_singleton.mp hb
    exact (hlen q hq).1
  · rcases List.mem_append.mp hq with hq | hq
    · exact ⟨hl.trans (hlen q hq).1, (hlen q hq).2⟩
    · obtain rfl := List.mem_singleton.mp hq
      exact ⟨hl, hh⟩

theorem length_le_of_fork {P : List Bool} {i : Nat} {a c : Bool} (h : chooseLevel P i a c = .fork) : P.length ≤ i := by
  by_contra hlt
  rw [chooseLevel_of_replay (List.getElem?_eq_getElem (Nat.lt_of_not_le hlt))] at h
  split at h <;> cases h

/-- The levels of a pass push only at new levels, and a path they resolve has a bit for each level (44_search.md R191). -/
theorem searchLevels_eq_ok {P cur : List Bool} {n : Nat} {stack : List (List Bool)} {s t : State}
    {out : Option (List Bool) × List (List Bool)} (h : searchLevels P n cur stack s = .ok out t) :
    PushesOnto (max P.length cur.length) (cur.length + n) stack out.2 ∧
      ∀ path ∈ out.1, path.length = cur.length + n := by
  induction n generalizing cur stack s with
  | zero =>
    cases h
    exact ⟨.refl _ _ _, by simp⟩
  | succ n ih =>
    rw [searchLevels_succ] at h
    obtain ⟨a, t, -, h⟩ := Res.andThen_eq_ok h
    obtain ⟨c, u, -, h⟩ := Res.andThen_eq_ok h
    cases hc : chooseLevel P cur.length a c <;> rw [hc, actOn] at h
    case comms => cases h
    case pathEmpty =>
      cases h
      exact ⟨.refl _ _ _, by simp⟩
    case take b =>
      obtain ⟨-, v, -, h⟩ := Res.andThen_eq_ok h
      obtain ⟨hpush, hpath⟩ := ih h
      simp only [List.length_append, List.length_singleton, Nat.add_assoc, Nat.add_comm 1 n] at hpush hpath
      exact ⟨hpush.mono (by omega), hpath⟩
    case fork =>
      have hP := length_le_of_fork hc
      obtain ⟨-, v, -, h⟩ := Res.andThen_eq_ok h
      obtain ⟨hpush, hpath⟩ := ih h
      simp only [List.length_append, List.length_singleton, Nat.add_assoc, Nat.add_comm 1 n] at hpush hpath
      refine ⟨PushesOnto.cons (hpush.mono ?_) ?_ ?_, hpath⟩
      all_goals simp only [List.length_append, List.length_singleton]; omega

/-- A code that SEARCH may return where a code has `romBits` bits (44_search.md R196). -/
def ValidCode (romBits : Nat) (code : List Byte) : Prop := code.length = (romBits + 7) / 8 ∧ crc8 code = 0#8

theorem length_packCode (cur : List Bool) : (packCode cur).length = (cur.length + 7) / 8 := by simp [packCode]

theorem checkCode_eq_ok {code : List Byte} {stack : List (List Bool)} {s t : State}
    {out : Option (List Byte) × List (List Bool)} (h : checkCode code stack s = .ok out t) :
    out = (some code, stack) ∧ crc8 code = 0#8 := by
  unfold checkCode at h
  split at h
  · cases h
  · next hc =>
    cases h
    exact ⟨rfl, not_not.mp hc⟩

/-- A pass pushes paths longer than the one it replays, and the code it finds is valid. -/
theorem searchPass_eq_ok {P : List Bool} {stack : List (List Bool)} {s t : State}
    {out : Option (List Byte) × List (List Bool)} (h : searchPass P stack s = .ok out t) :
    PushesOnto P.length s.params.romBits stack out.2 ∧ ∀ code ∈ out.1, ValidCode s.params.romBits code := by
  obtain ⟨p, u, hu, h⟩ := Res.andThen_eq_ok h
  have keptReset := resetBody_keeps s
  rw [hu] at keptReset
  split at h
  · cases h
    exact ⟨.refl _ _ _, by simp⟩
  obtain ⟨_, v, hv, h⟩ := Res.andThen_eq_ok h
  have keptCommand := implicitBatch_keeps _ u (wbyteBody_keeps u.params.searchCmd)
  rw [hv] at keptCommand
  have params : v.params = s.params := keptCommand.params.trans keptReset.params
  obtain ⟨levels, w, hw, h⟩ := Res.andThen_eq_ok h
  rw [params] at hw
  obtain ⟨hpush, hpath⟩ := searchLevels_eq_ok hw
  simp only [List.length_nil, Nat.zero_add, Nat.max_zero] at hpush hpath
  split at h
  · cases h
    exact ⟨hpush, by simp⟩
  · next path hp =>
    obtain ⟨rfl, hcrc⟩ := checkCode_eq_ok h
    refine ⟨hpush, fun code hcode => ?_⟩
    cases hcode
    exact ⟨by rw [length_packCode, hpath path hp], hcrc⟩

/-! ## The stack stays bounded (44_search.md R199) -/

theorem PushesOnto.stackInOrder {low high : Nat} {stack stack' : List (List Bool)} (h : PushesOnto low high stack stack')
    (hs : stackInOrder high stack) (hlt : ∀ p ∈ stack, p.length < low) : stackInOrder high stack' := by
  obtain ⟨pushed, rfl, hdec, hlen⟩ := h
  obtain ⟨sdec, slen⟩ := hs
  refine ⟨?_, fun p hp => ?_⟩
  · rw [List.map_append, List.pairwise_append]
    refine ⟨hdec, sdec, fun a ha b hb => ?_⟩
    obtain ⟨p, hp, rfl⟩ := List.mem_map.mp ha
    obtain ⟨q, hq, rfl⟩ := List.mem_map.mp hb
    exact (hlt q hq).trans (hlen p hp).1
  · rcases List.mem_append.mp hp with hp | hp
    · exact ⟨Nat.one_le_of_lt (hlen p hp).1, (hlen p hp).2⟩
    · exact slen p hp

/-- The lengths on the stack are different numbers from 1 to `romBits`. -/
theorem length_le_of_stackInOrder {romBits : Nat} {stack : List (List Bool)} (h : stackInOrder romBits stack) :
    stack.length ≤ romBits := by
  obtain ⟨hdec, hlen⟩ := h
  have distinct : (stack.map List.length).Nodup := hdec.imp fun hlt => hlt.ne'
  have inRange : stack.map List.length ⊆ List.range' 1 romBits := fun l hl => by
    obtain ⟨p, hp, rfl⟩ := List.mem_map.mp hl
    have := hlen p hp
    rw [List.mem_range'_1]
    omega
  simpa using (distinct.subperm inRange).length_le

/-- Settles O44: a pass pushes longer paths than the one it replays, and those below are shorter. -/
theorem searchStackStaysBounded : Obligations.SearchStackStaysBounded := by
  intro P stack s t found stack' _ hs hlt h
  have order := (searchPass_eq_ok h).1.stackInOrder hs hlt
  exact ⟨order, length_le_of_stackInOrder order⟩

/-! ## The bound on the passes (44_search.md R200) -/

/-- How many codes begin with a path of the stack, counted for each path. -/
def stackWeight (romBits : Nat) (stack : List (List Bool)) : Nat := (stack.map fun p => 2 ^ (romBits - p.length)).sum

@[simp] theorem stackWeight_cons (romBits : Nat) (p : List Bool) (stack : List (List Bool)) :
    stackWeight romBits (p :: stack) = 2 ^ (romBits - p.length) + stackWeight romBits stack := by simp [stackWeight]

/-- The paths that are pushed weigh less than the path that was replayed: they are different powers of 2. -/
theorem PushesOnto.stackWeight_lt {low high : Nat} {stack stack' : List (List Bool)}
    (h : PushesOnto low high stack stack') :
    stackWeight high stack' < 2 ^ (high - low) + stackWeight high stack := by
  obtain ⟨pushed, rfl, hdec, hlen⟩ := h
  have distinct : (pushed.map fun p => high - p.length).Nodup := by
    rw [List.pairwise_map] at hdec
    refine List.pairwise_map.mpr (hdec.imp_of_mem fun {p q} hp hq hlt => ?_)
    have := hlen p hp
    omega
  have sum : (pushed.map fun p => 2 ^ (high - p.length)).sum < 2 ^ (high - low) := by
    have same := List.sum_toFinset (fun k => 2 ^ k) distinct
    rw [List.map_map] at same
    refine same.symm.trans_lt (Nat.geomSum_lt (Nat.le_refl 2) fun k hk => ?_)
    obtain ⟨p, hp, rfl⟩ := List.mem_map.mp (List.mem_toFinset.mp hk)
    have := hlen p hp
    omega
  simpa [stackWeight] using sum

/-- As many passes as the stack weighs are enough: more change nothing. -/
theorem searchLoop_of_stackWeight_le {fuel fuel' : Nat} {stack : List (List Bool)} (results : List (List Byte)) {s : State}
    (h : stackWeight s.params.romBits stack ≤ fuel) (h' : stackWeight s.params.romBits stack ≤ fuel') :
    searchLoop fuel stack results s = searchLoop fuel' stack results s := by
  induction fuel generalizing fuel' stack results s with
  | zero =>
    cases stack with
    | nil => rw [searchLoop_nil, searchLoop_nil]
    | cons P stack =>
      have pos := Nat.two_pow_pos (s.params.romBits - P.length)
      rw [stackWeight_cons] at h
      omega
  | succ fuel ih =>
    cases stack with
    | nil => rw [searchLoop_nil, searchLoop_nil]
    | cons P stack =>
      have pos := Nat.two_pow_pos (s.params.romBits - P.length)
      rw [stackWeight_cons] at h h'
      obtain ⟨k, rfl⟩ : ∃ k, fuel' = k + 1 := ⟨fuel' - 1, by omega⟩
      rw [searchLoop, searchLoop]
      have kept := searchPass_keeps P stack s
      cases hp : searchPass P stack s with
      | raise e t => rfl
      | stop r t => rfl
      | ok out t =>
        have lighter := (searchPass_eq_ok hp).1.stackWeight_lt
        rw [hp] at kept
        have params : t.params = s.params := kept.params
        rw [← params] at lighter h h'
        have rest (results' : List (List Byte)) :
            searchLoop fuel out.2 results' t = searchLoop k out.2 results' t := ih results' (by omega) (by omega)
        simp only [Res.andThen_ok, rest]

/-- Settles O45: the stack that holds the empty path weighs 2 ^ `ROM_BITS`. -/
theorem searchEndsWithinItsBound : Obligations.SearchEndsWithinItsBound := by
  intro s fuel h
  have weight : stackWeight s.params.romBits [[]] = 2 ^ s.params.romBits := by simp [stackWeight]
  exact searchLoop_of_stackWeight_le [] (weight.trans_le h) weight.le

/-! ## Codes, errors and refusals (44_search.md R190, R196, R202) -/

theorem searchLoop_eq_ok {fuel : Nat} {stack : List (List Bool)} {results codes : List (List Byte)} {s t : State}
    (h : searchLoop fuel stack results s = .ok codes t) (hr : ∀ code ∈ results, ValidCode s.params.romBits code) :
    ∀ code ∈ codes, ValidCode s.params.romBits code := by
  induction fuel generalizing stack results s with
  | zero =>
    cases h
    exact hr
  | succ fuel ih =>
    cases stack with
    | nil =>
      cases h
      exact hr
    | cons P stack =>
      obtain ⟨out, u, hu, h⟩ := Res.andThen_eq_ok h
      have kept := searchPass_keeps P stack s
      rw [hu] at kept
      have params : u.params = s.params := kept.params
      obtain ⟨-, hvalid⟩ := searchPass_eq_ok hu
      rw [← params] at hr hvalid ⊢
      split at h
      · exact ih h hr
      · next code hcode =>
        split at h
        · cases h
        · exact ih h (List.forall_mem_append.mpr ⟨hr, by simpa using hvalid code hcode⟩)

/-- In a state of these parameters, 32 elements more fit into the batch: no command of SEARCH appends more. -/
structure Roomy (p : Params) (s : State) : Prop where
  params : s.params = p
  room : overCapacity p.batchCapacity (s.buf.length + 32) = false

/-- A part of SEARCH goes on with room for the next batch, raises one of the errors of R190, or has met the bound on the
results (93_implementation_defined.md I22). -/
def Res.PartOfSearch {α : Type} (p : Params) : Res α → Prop
  | .ok _ s => Roomy p s
  | .raise e _ => e.status ∈ [Status.usb, .timeout, .comms, .crc]
  | .stop r _ => r = .resultsFull ∧ p.resultCapacity ≠ none

theorem Res.PartOfSearch.andThen {α β : Type} {p : Params} {r : Res α} {k : α → State → Res β} (h : r.PartOfSearch p)
    (hk : ∀ a t, Roomy p t → (k a t).PartOfSearch p) : (r.andThen k).PartOfSearch p := by
  cases r with
  | ok a t => exact hk a t h
  | raise e t => exact h
  | stop r t => exact h

section
variable {p : Params} {s : State} (h : Roomy p s)
include h

/-- A batch of at most 32 elements is flushed, and the buffer is then empty. -/
theorem Roomy.ifRoom_flush {t : State} (hp : t.params = s.params) (hb : t.buf.length ≤ s.buf.length + 32) :
    (ifRoom t flush).PartOfSearch p := by
  have params : t.params = p := hp.trans h.params
  have fits : fitsBatch t t.buf.length := overCapacity_mono hb (params ▸ h.room)
  have kept := (flush_keeps t).params
  obtain ⟨-, empty, -⟩ := flush_idle t
  rw [ifRoom_fits flush fits]
  rcases flush_ends t with ⟨vals, u, hf, -⟩ | ⟨cause, u, hf, -⟩ | ⟨-, n, u, hf, -⟩ <;> rw [hf] at kept empty ⊢
  · exact ⟨kept.trans params, overCapacity_mono (by simp [show u.buf = [] from empty]) h.room⟩
  · simp [Res.PartOfSearch]
  · simp [Res.PartOfSearch]

theorem Roomy.resetOnce : (resetOnce s).PartOfSearch p := by
  refine Res.PartOfSearch.andThen ?_ fun _ t ht => ⟨ht.params, ht.room⟩
  rw [resetSlot_eq]
  exact h.ifRoom_flush rfl (by simp [slotDone, pendRead, resetElems])

theorem Roomy.resetBody : (resetBody s).PartOfSearch p := by
  refine h.resetOnce.andThen fun a t ht => ?_
  split
  · have retry : Roomy p { t with mode := .std } := ⟨ht.params, ht.room⟩
    exact retry.resetOnce.andThen fun _ u hu => ⟨hu.params, hu.room⟩
  · exact ⟨ht.params, ht.room⟩

theorem Roomy.slots (c : SlotCommand) (hc : c.total ≤ 32) : (implicitBatch c.body s).PartOfSearch p := by
  unfold implicitBatch
  split
  · simp [Res.PartOfSearch]
  · rw [c.body_eq]
    exact h.ifRoom_flush rfl (by rw [c.length_done_buf]; exact Nat.add_le_add_left hc _)

theorem Roomy.pollBit : (pollBit s).PartOfSearch p := (h.slots .rbit (by decide)).andThen fun _ _ => id

theorem Roomy.writeBit (b : Bool) : (implicitBatch (wbitBody b) s).PartOfSearch p :=
  h.slots (.wbit b) (Nat.le_add_left 4 28)

theorem Roomy.searchLevels (P : List Bool) (n : Nat) (cur : List Bool) (stack : List (List Bool)) :
    (searchLevels P n cur stack s).PartOfSearch p := by
  induction n generalizing cur stack s with
  | zero => exact h
  | succ n ih =>
    rw [searchLevels_succ]
    refine h.pollBit.andThen fun a t ht => ht.pollBit.andThen fun c u hu => ?_
    cases chooseLevel P cur.length a c with
    | comms => simp [actOn, Res.PartOfSearch]
    | pathEmpty => exact hu
    | take b => exact (hu.writeBit b).andThen fun _ v hv => ih hv _ _
    | fork => exact (hu.writeBit false).andThen fun _ v hv => ih hv _ _

theorem Roomy.searchPass (P : List Bool) (stack : List (List Bool)) : (searchPass P stack s).PartOfSearch p := by
  refine h.resetBody.andThen fun present t ht => ?_
  split
  · exact ht
  refine (ht.slots (.wbyte t.params.searchCmd) (Nat.le_refl 32)).andThen fun _ u hu =>
    (hu.searchLevels P _ [] stack).andThen fun out v hv => ?_
  split
  · exact hv
  · unfold checkCode
    split
    · simp [Res.PartOfSearch]
    · exact hv

theorem Roomy.searchLoop (fuel : Nat) (stack : List (List Bool)) (results : List (List Byte)) :
    (searchLoop fuel stack results s).PartOfSearch p := by
  induction fuel generalizing stack results s with
  | zero => exact h
  | succ fuel ih =>
    cases stack with
    | nil => exact h
    | cons P stack =>
      refine (h.searchPass P stack).andThen fun out t ht => ?_
      split
      · exact ih ht _ _
      · split
        · next hfull =>
          refine ⟨rfl, fun hnone => ?_⟩
          rw [ht.params, hnone] at hfull
          cases hfull
        · exact ih ht _ _

end

/-- Settles O48: SEARCH checks the batch and the transport, and its loop is a part of SEARCH that returns valid codes. -/
theorem searchReturnsOnlyValidCodes : Obligations.SearchReturnsOnlyValidCodes := by
  intro s hf
  cases hc : s.collecting with
  | true => exact .inr ⟨_, _, exec_search_of_open hc, rfl, by simp⟩
  | false =>
    cases hd : s.transportDead with
    | true => exact .inr ⟨_, _, exec_search_of_dead hc hd, rfl, by simp⟩
    | false =>
      have part := (Roomy.mk (s := s) rfl hf).searchLoop (searchFuel s.params) [[]] []
      have kept := (searchLoop_keeps (searchFuel s.params) [[]] [] s).responses
      rw [exec_search_of_alive hc hd]
      cases hl : searchLoop (searchFuel s.params) [[]] [] s with
      | stop r t =>
        rw [hl] at part
        obtain ⟨rfl, hcap⟩ := part
        exact .inl ⟨rfl, hcap⟩
      | raise e t =>
        rw [hl] at part kept
        have status : e.status ∈ [Status.usb, .timeout, .comms, .crc] := part
        refine .inr ⟨_, ⟨e.status, e.info⟩, rfl, congrArg (· ++ _) kept,
          List.mem_cons_of_mem _ (List.mem_cons_of_mem _ status), fun hok => ?_⟩
        rw [show e.status = .ok from hok] at status
        exact absurd status (by decide)
      | ok codes t =>
        rw [hl] at kept
        refine .inr ⟨_, ⟨.ok, codes.map .rom⟩, rfl, congrArg (· ++ _) kept, by simp, fun _ v hv => ?_⟩
        obtain ⟨code, hcode, rfl⟩ := List.mem_map.mp hv
        exact ⟨code, rfl, searchLoop_eq_ok hl (by simp) code hcode⟩

end Sys2Proof.Machine
end

section
/-! PROOF. SEARCH on an ideal bus: the paths on the stack stand for the devices that are still to be found, in their order,
and a pass finds the first of them (44_search.md R203). -/

namespace Sys2Proof.Machine

/-! ## The packed code (44_search.md R196) -/

theorem testBit_bitsToNat (bs : List Bool) (k : Nat) : (bitsToNat bs).testBit k = bs.getD k false := by
  induction bs generalizing k with
  | nil => simp [bitsToNat]
  | cons b bs ih =>
    cases k with
    | zero => cases b <;> simp [bitsToNat, Nat.testBit_zero]
    | succ k =>
      have half : (b.toNat + 2 * bitsToNat bs) / 2 = bitsToNat bs := by cases b <;> simp; omega
      rw [bitsToNat, Nat.testBit_succ, half, ih, List.getD_cons_succ]

theorem getLsbD_packByte (path : List Bool) (j : Nat) {k : Nat} (hk : k < 8) :
    (packByte path j).getLsbD k = path.getD (8 * j + k) false := by
  rw [packByte, BitVec.getLsbD_ofNat, testBit_bitsToNat]
  simp [hk]

/-- The bits of a path are spelt by no other code than the packed one. -/
theorem packCode_of_spells {code : List Byte} {path : List Bool} (h : spells code path) : packCode path = code := by
  obtain ⟨hlen, hbits⟩ := h
  refine List.ext_getElem (by rw [length_packCode, hlen]) fun j _ hj => BitVec.eq_of_getLsbD_eq fun k hk => ?_
  have spelt := hbits j k hj hk
  rw [List.getD_eq_getElem _ _ hj] at spelt
  simp [packCode, getLsbD_packByte path j hk, spelt]

/-! ## The devices below a path -/

/-- The devices whose bits begin with the path p: those that the pass that replays p can find. -/
def devicesBelow (D : List (List Bool)) (p : List Bool) : List (List Bool) := activeAt D p p.length

theorem mem_devicesBelow {D : List (List Bool)} {p e : List Bool} :
    e ∈ devicesBelow D p ↔ e ∈ D ∧ e.take p.length = p := by simp [devicesBelow, activeAt]

theorem activeAt_eq_devicesBelow (D : List (List Bool)) {d : List Bool} {i : Nat} (hi : i ≤ d.length) :
    activeAt D d i = devicesBelow D (d.take i) := by
  simp [devicesBelow, activeAt, List.take_take, Nat.min_eq_left hi]

theorem devicesBelow_nil (D : List (List Bool)) : devicesBelow D [] = D := by simp [devicesBelow, activeAt]

theorem take_succ_getD {e : List Bool} {i : Nat} (h : i < e.length) : e.take (i + 1) = e.take i ++ [e.getD i false] := by
  rw [List.take_succ_eq_append_getElem h, List.getD_eq_getElem _ _ h]

/-- A list in which no entry with q stands after one without it. -/
theorem eq_filter_append_filter_not {α : Type} {q : α → Bool} {xs : List α}
    (h : xs.Pairwise fun x y => q y = true → q x = true) : xs = xs.filter q ++ xs.filter (fun x => !q x) := by
  induction xs with
  | nil => rfl
  | cons x xs ih =>
    obtain ⟨hx, hxs⟩ := List.pairwise_cons.mp h
    by_cases hq : q x = true
    · simpa [hq] using ih hxs
    · have none : xs.filter q = [] := List.filter_eq_nil_iff.mpr fun y hy hqy => hq (hx y hy hqy)
      have all : xs.filter (fun x => !q x) = xs :=
        List.filter_eq_self.mpr fun y hy => by simpa using mt (hx y hy) hq
      simp [hq, none, all]

section
variable {N : Nat} {D : List (List Bool)} (hlen : ∀ e ∈ D, e.length = N)
include hlen

/-- Writing the bit b back leaves the devices with that bit active. -/
theorem devicesBelow_snoc {p : List Bool} (hp : p.length < N) (b : Bool) :
    devicesBelow D (p ++ [b]) = (devicesBelow D p).filter fun e => e.getD p.length false == b := by
  simp only [devicesBelow, activeAt, List.filter_filter, List.take_length]
  refine List.filter_congr fun e he => ?_
  rw [List.length_append, List.length_singleton, take_succ_getD (by rw [hlen e he]; exact hp), Bool.eq_iff_iff,
    Bool.and_eq_true, beq_iff_eq, beq_iff_eq, beq_iff_eq]
  constructor
  · intro h
    obtain ⟨htake, hbit⟩ := List.append_inj' h rfl
    exact ⟨List.singleton_inj.mp hbit, htake⟩
  · rintro ⟨hbit, htake⟩
    rw [hbit, htake]

variable (hsort : D.Pairwise searchedBefore)
include hsort

/-- Below a path, the devices with 0 next come before those with 1. -/
theorem devicesBelow_split {p : List Bool} (hp : p.length < N) :
    devicesBelow D p = devicesBelow D (p ++ [false]) ++ devicesBelow D (p ++ [true]) := by
  have sorted : (devicesBelow D p).Pairwise fun d e =>
      (e.getD p.length false == false) = true → (d.getD p.length false == false) = true := by
    refine (hsort.filter _).imp_of_mem fun {d e} hd he hde hzero => ?_
    have hd := (mem_devicesBelow.mp hd).2
    have he := (mem_devicesBelow.mp he).2
    obtain ⟨i, htake, hd0, he1⟩ := hde
    rw [beq_iff_eq] at hzero ⊢
    rcases Nat.lt_trichotomy i p.length with hi | rfl | hi
    · have same : d[i]? = e[i]? := by
        rw [← List.getElem?_take_of_lt hi, hd, ← List.getElem?_take_of_lt (l := e) hi, he]
      cases hd0.symm.trans (same.trans he1)
    · rw [List.getD_eq_getElem?_getD, hd0, Option.getD_some]
    · rw [List.getD_eq_getElem?_getD, ← List.getElem?_take_of_lt hi, htake, List.getElem?_take_of_lt hi,
        ← List.getD_eq_getElem?_getD, hzero]
  rw [devicesBelow_snoc hlen hp, devicesBelow_snoc hlen hp]
  have other : (fun e : List Bool => !(e.getD p.length false == false)) = fun e => e.getD p.length false == true :=
    funext fun e => by cases e.getD p.length false <;> rfl
  exact other ▸ eq_filter_append_filter_not sorted

/-- All bits of a device lead to it alone. -/
theorem devicesBelow_eq_singleton {d : List Bool} {later : List (List Bool)} (h : devicesBelow D d = d :: later) :
    later = [] := by
  have hd := mem_devicesBelow.mp (h ▸ List.mem_cons_self : d ∈ devicesBelow D d)
  refine List.eq_nil_iff_forall_not_mem.mpr fun e he => ?_
  have below := mem_devicesBelow.mp (h ▸ List.mem_cons_of_mem d he : e ∈ devicesBelow D d)
  have same : e = d := by rw [← below.2, hlen d hd.1, ← hlen e below.1, List.take_length]
  have sorted : (devicesBelow D d).Pairwise searchedBefore := hsort.filter _
  rw [h, List.pairwise_cons] at sorted
  obtain ⟨i, -, h0, h1⟩ := sorted.1 e he
  cases h0.symm.trans (same ▸ h1)

end

/-! ## The polls of an ideal bus (44_search.md R203) -/

section
variable {D : List (List Bool)} {d : List Bool} {i : Nat}

theorem firstPoll_eq_true_iff (hi : i ≤ d.length) :
    firstPoll D d i = true ↔ ∀ e ∈ devicesBelow D (d.take i), e.getD i false = true := by
  rw [firstPoll, activeAt_eq_devicesBelow D hi, List.all_eq_true]

theorem secondPoll_eq_true_iff (hi : i ≤ d.length) :
    secondPoll D d i = true ↔ ∀ e ∈ devicesBelow D (d.take i), e.getD i false = false := by
  simp [secondPoll, activeAt_eq_devicesBelow D hi]

theorem mem_devicesBelow_take (hd : d ∈ D) : d ∈ devicesBelow D (d.take i) := by
  simp [mem_devicesBelow, hd]

/-- In the replay region the polls agree with the bits of a device below the path. -/
theorem chooseLevel_ideal_replay {P : List Bool} (hd : d ∈ devicesBelow D P) (hi : i < P.length) :
    chooseLevel P i (firstPoll D d i) (secondPoll D d i) = .take (d.getD i false) := by
  obtain ⟨hD, hP⟩ := mem_devicesBelow.mp hd
  have hlt : i < d.length := by
    have := congrArg List.length hP
    rw [List.length_take] at this
    omega
  have bit : P[i]? = some (d.getD i false) := by
    rw [← hP, List.getElem?_take_of_lt hi, List.getD_eq_getElem _ _ hlt, List.getElem?_eq_getElem hlt]
  have first := fun h => (firstPoll_eq_true_iff hlt.le).mp h d (mem_devicesBelow_take hD)
  have second := fun h => (secondPoll_eq_true_iff hlt.le).mp h d (mem_devicesBelow_take hD)
  rw [chooseLevel_of_replay bit, if_neg]
  rintro (⟨h0, h1⟩ | ⟨h1, h0⟩)
  · cases h0.symm.trans (first h1)
  · cases h1.symm.trans (second h0)

end

/-- At a new level the polls agree with the bit of the first device below the path, and fork where a device has the other
bit: that one comes later. -/
theorem chooseLevel_ideal_new {N : Nat} {D : List (List Bool)} (hlen : ∀ e ∈ D, e.length = N)
    (hsort : D.Pairwise searchedBefore) {P d : List Bool} {i : Nat} {later : List (List Bool)} (hP : P.length ≤ i)
    (hi : i < N) (h : devicesBelow D (d.take i) = d :: later) :
    (chooseLevel P i (firstPoll D d i) (secondPoll D d i) = .take (d.getD i false) ∧
      devicesBelow D (d.take (i + 1)) = d :: later) ∨
    (chooseLevel P i (firstPoll D d i) (secondPoll D d i) = .fork ∧ d.getD i false = false ∧
      ∃ near, devicesBelow D (d.take (i + 1)) = d :: near ∧ later = near ++ devicesBelow D (d.take i ++ [true]) ∧
        devicesBelow D (d.take i ++ [true]) ≠ []) := by
  have hd : d ∈ devicesBelow D (d.take i) := h ▸ List.mem_cons_self
  have hdN : d.length = N := hlen d (mem_devicesBelow.mp hd).1
  have hlt : i < d.length := hdN ▸ hi
  have len : (d.take i).length = i := by simp [hlt.le]
  have snoc (b : Bool) : devicesBelow D (d.take i ++ [b]) =
      (devicesBelow D (d.take i)).filter fun e => e.getD i false == b := by
    rw [devicesBelow_snoc hlen (by rw [len]; exact hi), len]
  have mem (e : List Bool) (b : Bool) :
      e ∈ devicesBelow D (d.take i ++ [b]) ↔ e ∈ devicesBelow D (d.take i) ∧ e.getD i false = b := by
    rw [snoc, List.mem_filter, beq_iff_eq]
  have split := devicesBelow_split hlen hsort (p := d.take i) (by rw [len]; exact hi)
  have first := firstPoll_eq_true_iff (D := D) hlt.le
  have second := secondPoll_eq_true_iff (D := D) hlt.le
  rw [take_succ_getD hlt, chooseLevel_of_new hP]
  by_cases alike : ∀ e ∈ devicesBelow D (d.take i), e.getD i false = d.getD i false
  · left
    have hfirst : firstPoll D d i = d.getD i false :=
      Bool.eq_iff_iff.mpr (first.trans ⟨fun h1 => h1 d hd, fun h1 e he => (alike e he).trans h1⟩)
    have hsecond : secondPoll D d i = !d.getD i false := by
      rw [Bool.eq_iff_iff, second, Bool.not_eq_true']
      exact ⟨fun h0 => h0 d hd, fun h0 e he => (alike e he).trans h0⟩
    rw [hfirst, hsecond, if_pos (by simp), snoc, List.filter_eq_self.mpr fun e he => beq_iff_eq.mpr (alike e he)]
    exact ⟨rfl, h⟩
  · right
    have hfirst : firstPoll D d i = false := Bool.eq_false_iff.mpr fun h1 =>
      alike fun e he => (first.mp h1 e he).trans (first.mp h1 d hd).symm
    have hsecond : secondPoll D d i = false := Bool.eq_false_iff.mpr fun h0 =>
      alike fun e he => (second.mp h0 e he).trans (second.mp h0 d hd).symm
    obtain ⟨e₀, he₀, zero⟩ : ∃ e ∈ devicesBelow D (d.take i), e.getD i false = false := by
      simpa using mt first.mpr (Bool.eq_false_iff.mp hfirst)
    obtain ⟨e₁, he₁, one⟩ : ∃ e ∈ devicesBelow D (d.take i), e.getD i false = true := by
      simpa using mt second.mpr (Bool.eq_false_iff.mp hsecond)
    have mem₀ : e₀ ∈ devicesBelow D (d.take i ++ [false]) := (mem _ _).mpr ⟨he₀, zero⟩
    have mem₁ : e₁ ∈ devicesBelow D (d.take i ++ [true]) := (mem _ _).mpr ⟨he₁, one⟩
    obtain ⟨f, near, hnear⟩ := List.exists_cons_of_ne_nil (List.ne_nil_of_mem mem₀)
    rw [h, hnear, List.cons_append, List.cons.injEq] at split
    obtain ⟨rfl, hlater⟩ := split
    have bit : d.getD i false = false := ((mem _ _).mp (hnear ▸ List.mem_cons_self)).2
    rw [hfirst, hsecond, bit]
    exact ⟨rfl, rfl, near, hnear, hlater, List.ne_nil_of_mem mem₁⟩

/-- At every level the first device below what is already decided, the path or the levels above, goes on. -/
theorem chooseLevel_ideal {N : Nat} {D : List (List Bool)} (hlen : ∀ e ∈ D, e.length = N)
    (hsort : D.Pairwise searchedBefore) {P d : List Bool} {i : Nat} {later : List (List Bool)}
    (hd : d ∈ devicesBelow D P) (hi : i < N) (h : devicesBelow D (d.take (max P.length i)) = d :: later) :
    (chooseLevel P i (firstPoll D d i) (secondPoll D d i) = .take (d.getD i false) ∧
      devicesBelow D (d.take (max P.length (i + 1))) = d :: later) ∨
    (chooseLevel P i (firstPoll D d i) (secondPoll D d i) = .fork ∧ d.getD i false = false ∧
      ∃ near, devicesBelow D (d.take (max P.length (i + 1))) = d :: near ∧
        later = near ++ devicesBelow D (d.take i ++ [true]) ∧ devicesBelow D (d.take i ++ [true]) ≠ []) := by
  rcases Nat.lt_or_ge i P.length with hiP | hPi
  · rw [Nat.max_eq_left hiP.le] at h
    exact .inl ⟨chooseLevel_ideal_replay hd hiP, by rwa [Nat.max_eq_left hiP]⟩
  · rw [Nat.max_eq_right hPi] at h
    rw [Nat.max_eq_right (hPi.trans i.le_succ)]
    exact chooseLevel_ideal_new hlen hsort hPi hi h

/-! ## The levels of a pass (44_search.md R191, R203) -/

/-- The passes for the paths of the stack, each of them not in vain, are to find these devices in this order. -/
def StandsFor (D stack devices : List (List Bool)) : Prop :=
  (stack.map (devicesBelow D)).flatten = devices ∧ ∀ p ∈ stack, devicesBelow D p ≠ []

theorem StandsFor.append {D stack stack' devices devices' : List (List Bool)} (h : StandsFor D stack devices)
    (h' : StandsFor D stack' devices') : StandsFor D (stack ++ stack') (devices ++ devices') := by
  obtain ⟨rfl, hne⟩ := h
  obtain ⟨rfl, hne'⟩ := h'
  exact ⟨by simp, List.forall_mem_append.mpr ⟨hne, hne'⟩⟩

theorem StandsFor.singleton {D : List (List Bool)} {p : List Bool} (h : devicesBelow D p ≠ []) :
    StandsFor D [p] (devicesBelow D p) := ⟨by simp, by simpa using h⟩

/-- The search begins with the empty path, which stands for all devices (44_search.md R190). -/
theorem StandsFor.all {D : List (List Bool)} (h : D ≠ []) : StandsFor D [[]] D := by
  have below := devicesBelow_nil D
  have single := StandsFor.singleton (p := []) (below.symm ▸ h)
  rwa [below] at single

theorem StandsFor.eq_nil {D stack : List (List Bool)} (h : StandsFor D stack []) : stack = [] := by
  obtain ⟨hflat, hne⟩ := h
  refine List.eq_nil_iff_forall_not_mem.mpr fun p hp => hne p hp ?_
  exact List.flatten_eq_nil_iff.mp hflat _ (List.mem_map_of_mem hp)

/-- The pass for the top of the stack is to find the first device. -/
theorem StandsFor.eq_cons {D stack later : List (List Bool)} {d : List Bool} (h : StandsFor D stack (d :: later)) :
    ∃ P rest near far, stack = P :: rest ∧ devicesBelow D P = d :: near ∧ later = near ++ far ∧ StandsFor D rest far := by
  obtain ⟨hflat, hne⟩ := h
  cases stack with
  | nil => cases hflat
  | cons P rest =>
    obtain ⟨hP, hrest⟩ := List.forall_mem_cons.mp hne
    obtain ⟨e, near, hnear⟩ := List.exists_cons_of_ne_nil hP
    rw [List.map_cons, List.flatten_cons, hnear, List.cons_append, List.cons.injEq] at hflat
    obtain ⟨rfl, hlater⟩ := hflat
    exact ⟨P, rest, near, _, rfl, hnear, hlater.symm, rfl, hrest⟩

/-- What the ideal bus answers to the polls of a level. -/
def levelSamples (D : List (List Bool)) (d : List Bool) (i : Nat) : List Bool :=
  [firstPoll D d i, firstPoll D d i, secondPoll D d i, secondPoll D d i]

/-- The events of a level of the pass that finds d. -/
def levelEvents (s : State) (D : List (List Bool)) (d : List Bool) (i : Nat) : List Event :=
  pollEvents s (firstPoll D d i) (firstPoll D d i) (secondPoll D d i) (secondPoll D d i) ++
    [Event.txWrite (writeElems s (d.getD i false))]

theorem idealPass_eq (N : Nat) (D : List (List Bool)) (d : List Bool) :
    idealPass N D d = false :: true :: ((List.range' 0 N).map (levelSamples D d)).flatten := by
  rw [← List.range_eq_range']
  rfl

theorem idealPassEvents_eq (s : State) (N : Nat) (D : List (List Bool)) (d : List Bool) :
    idealPassEvents s N D d = startEvents s ++ ((List.range' 0 N).map (levelEvents s D d)).flatten := by
  rw [← List.range_eq_range']
  rfl

section
variable (s : State) (D : List (List Bool)) (d : List Bool) (ws : List WriteAnswer) (rs : List ReadKind)
  (rest : List Bool)

/-- The state in the pass that finds d when n levels are left, from level i on: the ideal bus will answer all of them. -/
def levelsAhead (events : List Event) (i n : Nat) : State :=
  slotsRun s events (List.replicate (3 * n) WriteAnswer.ok ++ ws) (List.replicate (2 * n) ReadKind.bits ++ rs)
    (((List.range' i n).map (levelSamples D d)).flatten ++ rest)

theorem levelsAhead_succ (events : List Event) (i n : Nat) :
    levelsAhead s D d ws rs rest events i (n + 1) =
      slotsRun s events (.ok :: .ok :: .ok :: (List.replicate (3 * n) WriteAnswer.ok ++ ws))
        (.bits :: .bits :: (List.replicate (2 * n) ReadKind.bits ++ rs))
        (firstPoll D d i :: firstPoll D d i :: secondPoll D d i :: secondPoll D d i ::
          (((List.range' (i + 1) n).map (levelSamples D d)).flatten ++ rest)) := rfl

variable {s D d ws rs rest} {P : List Bool} {stack : List (List Bool)} {events : List Event} {i : Nat} (n : Nat)
  (hi : Idle s) (hf : fitsBatch s 7) (hlt : i < d.length)
include hi hf hlt

theorem searchLevels_ideal_take
    (h : chooseLevel P i (firstPoll D d i) (secondPoll D d i) = .take (d.getD i false)) :
    searchLevels P (n + 1) (d.take i) stack (levelsAhead s D d ws rs rest events i (n + 1)) =
      searchLevels P n (d.take (i + 1)) stack
        (levelsAhead s D d ws rs rest (events ++ levelEvents s D d i) (i + 1) n) := by
  have len : (d.take i).length = i := by simp [hlt.le]
  rw [levelsAhead_succ, searchLevels_of_take (hi.slotsRun _ _ _ _) hf rfl rfl rfl (by rw [len]; exact h),
    slotsRun_slotsRun, take_succ_getD hlt, levelsAhead, levelEvents]
  simp

theorem searchLevels_ideal_fork (h : chooseLevel P i (firstPoll D d i) (secondPoll D d i) = .fork)
    (h0 : d.getD i false = false) :
    searchLevels P (n + 1) (d.take i) stack (levelsAhead s D d ws rs rest events i (n + 1)) =
      searchLevels P n (d.take (i + 1)) ((d.take i ++ [true]) :: stack)
        (levelsAhead s D d ws rs rest (events ++ levelEvents s D d i) (i + 1) n) := by
  have len : (d.take i).length = i := by simp [hlt.le]
  rw [levelsAhead_succ, searchLevels_of_fork (hi.slotsRun _ _ _ _) hf rfl rfl rfl (by rw [len]; exact h),
    slotsRun_slotsRun, take_succ_getD hlt, h0, levelsAhead, levelEvents, h0]
  simp

end

/-- The levels of a pass resolve the first device below its path, and push what stands for the others. -/
theorem searchLevels_ideal {N : Nat} {D : List (List Bool)} (hlen : ∀ e ∈ D, e.length = N)
    (hsort : D.Pairwise searchedBefore) {P d : List Bool} (hd : d ∈ devicesBelow D P) {s : State} (hi : Idle s)
    (hf : fitsBatch s 7) (ws : List WriteAnswer) (rs : List ReadKind) (rest : List Bool) {i n : Nat} (hin : i + n = N)
    {later : List (List Bool)} (h : devicesBelow D (d.take (max P.length i)) = d :: later)
    (stack : List (List Bool)) (events : List Event) :
    ∃ pushed, searchLevels P n (d.take i) stack (levelsAhead s D d ws rs rest events i n) =
        .ok (some d, pushed ++ stack)
          (slotsRun s (events ++ ((List.range' i n).map (levelEvents s D d)).flatten) ws rs rest) ∧
      StandsFor D pushed later := by
  obtain ⟨hD, hP⟩ := mem_devicesBelow.mp hd
  have hdN := hlen d hD
  induction n generalizing i later stack events with
  | zero =>
    obtain rfl : i = N := hin
    have hPi : P.length ≤ i := by
      have := congrArg List.length hP
      rw [List.length_take] at this
      omega
    have full : d.take i = d := List.take_of_length_le hdN.le
    rw [Nat.max_eq_right hPi, full] at h
    obtain rfl := devicesBelow_eq_singleton hlen hsort h
    refine ⟨[], ?_, rfl, by simp⟩
    rw [full]
    simp [searchLevels, levelsAhead]
  | succ n ih =>
    have hlt : i < d.length := by omega
    rcases chooseLevel_ideal hlen hsort hd (by omega) h with ⟨htake, hbelow⟩ | ⟨hfork, h0, near, hbelow, rfl, hne⟩
    · obtain ⟨pushed, hrun, hstands⟩ := ih (i := i + 1) (by omega) hbelow stack (events ++ levelEvents s D d i)
      refine ⟨pushed, ?_, hstands⟩
      rw [searchLevels_ideal_take n hi hf hlt htake, hrun]
      simp [List.range'_succ]
    · obtain ⟨pushed, hrun, hstands⟩ := ih (i := i + 1) (by omega) hbelow ((d.take i ++ [true]) :: stack)
        (events ++ levelEvents s D d i)
      refine ⟨pushed ++ [d.take i ++ [true]], ?_, hstands.append (.singleton hne)⟩
      rw [searchLevels_ideal_fork n hi hf hlt hfork h0, hrun]
      simp [List.range'_succ]

/-! ## The passes of a search (44_search.md R190, R203) -/

/-- The state after passes that found their device. -/
def passesRun (s : State) (events : List Event) (ws : List WriteAnswer) (rs : List ReadKind) (rest : List Bool) : State :=
  slotsRun { s with busSuspect := false } events ws rs rest

/-- The session s is between commands, and the devices D, of codes as long as its passes, stand in depth-first order. -/
structure IdealBus (N : Nat) (D : List (List Bool)) (s : State) : Prop where
  idle : Idle s
  romBits : s.params.romBits = N
  fits : fitsBatch s 32
  length : ∀ e ∈ D, e.length = N
  sorted : D.Pairwise searchedBefore

section
variable {N : Nat} {D : List (List Bool)} {s : State} {ws : List WriteAnswer} {rs : List ReadKind} {rest : List Bool}

theorem IdealBus.of_passesRun (hb : IdealBus N D s) (events : List Event) : IdealBus N D (passesRun s events ws rs rest) :=
  ⟨⟨hb.idle.idle, hb.idle.bufEmpty, hb.idle.pendEmpty, hb.idle.alive⟩, hb.romBits, hb.fits, hb.length, hb.sorted⟩

theorem passesRun_passesRun (events events' : List Event) (ws' : List WriteAnswer) (rs' : List ReadKind)
    (rest' : List Bool) :
    passesRun (passesRun s events ws rs rest) events' ws' rs' rest' =
      passesRun s (events ++ events') ws' rs' rest' := by
  simp [passesRun, slotsRun]

theorem idealPassEvents_passesRun (events : List Event) :
    idealPassEvents (passesRun s events ws rs rest) N D = idealPassEvents s N D := by
  funext d
  simp only [idealPassEvents, passesRun, resetElems_slotsRun, readElems_slotsRun, writeElems_slotsRun,
    writeByteElems_slotsRun]
  rfl

/-- A pass finds the first device below its path. -/
theorem searchPass_ideal (hb : IdealBus N D s) {P d : List Bool} {later stack : List (List Bool)}
    (h : devicesBelow D P = d :: later) (hcrc : crc8 (packCode d) = 0#8)
    (hw : s.writeAnswers = List.replicate (2 + 3 * N) WriteAnswer.ok ++ ws)
    (hr : s.readAnswers = List.replicate (1 + 2 * N) ReadKind.bits ++ rs) (hs : s.samples = idealPass N D d ++ rest) :
    ∃ pushed, searchPass P stack s =
        .ok (some (packCode d), pushed ++ stack) (passesRun s (idealPassEvents s N D d) ws rs rest) ∧
      StandsFor D pushed later := by
  have hd : d ∈ devicesBelow D P := h ▸ List.mem_cons_self
  have below : devicesBelow D (d.take (max P.length 0)) = d :: later := by
    rw [Nat.max_zero, (mem_devicesBelow.mp hd).2, h]
  have idle : Idle { s with busSuspect := false } :=
    ⟨hb.idle.idle, hb.idle.bufEmpty, hb.idle.pendEmpty, hb.idle.alive⟩
  obtain ⟨pushed, hlevels, hstands⟩ := searchLevels_ideal hb.length hb.sorted hd idle
    (overCapacity_mono (by decide) hb.fits) ws rs rest (Nat.zero_add N) below stack (startEvents s)
  refine ⟨pushed, ?_, hstands⟩
  rw [List.replicate_add, List.append_assoc] at hw hr
  rw [idealPass_eq, List.cons_append, List.cons_append] at hs
  rw [searchPass_of_levels hb.idle hb.fits hw hr hs hb.romBits hlevels, Option.elim_some, checkCode_of_valid hcrc,
    idealPassEvents_eq]
  rfl

/-- One pass of the loop finds the next device. -/
theorem searchLoop_ideal_succ (hb : IdealBus N D s) {r : Device} (hv : r.Valid N) {later stack : List (List Bool)}
    (h : StandsFor D stack (r.path :: later)) (hw : s.writeAnswers = List.replicate (2 + 3 * N) WriteAnswer.ok ++ ws)
    (hr : s.readAnswers = List.replicate (1 + 2 * N) ReadKind.bits ++ rs) (hs : s.samples = idealPass N D r.path ++ rest)
    {results : List (List Byte)} (hres : fitsResults s (results.length + 1)) :
    ∃ stack', StandsFor D stack' later ∧ ∀ fuel, searchLoop (fuel + 1) stack results s =
      searchLoop fuel stack' (results ++ [r.code])
        (passesRun s (idealPassEvents s N D r.path) ws rs rest) := by
  obtain ⟨P, stack, near, far, rfl, hbelow, rfl, hfar⟩ := h.eq_cons
  have code : packCode r.path = r.code := packCode_of_spells hv.spelt
  obtain ⟨pushed, hpass, hnear⟩ := searchPass_ideal (stack := stack) hb hbelow (code ▸ hv.crc) hw hr hs
  rw [code] at hpass
  exact ⟨pushed ++ stack, hnear.append hfar, fun fuel => searchLoop_of_code hpass fuel hres⟩

theorem replicate_mul_succ {α : Type} (k n : Nat) (a : α) (rest : List α) :
    List.replicate (k * (n + 1)) a ++ rest = List.replicate k a ++ (List.replicate (k * n) a ++ rest) := by
  rw [Nat.mul_succ, Nat.add_comm, List.replicate_add, List.append_assoc]

/-- The state when the devices R are still to be found: the ideal bus of D will answer their passes. -/
def passesAhead (N : Nat) (D : List (List Bool)) (s : State) (ws : List WriteAnswer) (rs : List ReadKind)
    (rest : List Bool) (events : List Event) (R : List Device) : State :=
  passesRun s events (List.replicate ((2 + 3 * N) * R.length) WriteAnswer.ok ++ ws)
    (List.replicate ((1 + 2 * N) * R.length) ReadKind.bits ++ rs)
    (((R.map Device.path).map (idealPass N D)).flatten ++ rest)

/-- The loop finds the devices that the stack stands for, in their order. -/
theorem searchLoop_ideal (hb : IdealBus N D s) {R : List Device} (hv : ∀ d ∈ R, d.Valid N)
    {stack : List (List Bool)} (h : StandsFor D stack (R.map Device.path)) {results : List (List Byte)}
    (hres : fitsResults s (results.length + R.length)) (fuel : Nat) (events : List Event) :
    searchLoop (R.length + fuel) stack results (passesAhead N D s ws rs rest events R) =
      .ok (results ++ R.map Device.code) (passesRun s
        (events ++ ((R.map Device.path).map (idealPassEvents s N D)).flatten) ws rs rest) := by
  induction R generalizing stack results events with
  | nil =>
    obtain rfl := h.eq_nil
    simp [searchLoop_nil, passesAhead]
  | cons r R ih =>
    obtain ⟨hr, hR⟩ := List.forall_mem_cons.mp hv
    have fits : fitsResults s ((results ++ [r.code]).length + R.length) := by
      simpa [Nat.add_assoc, Nat.add_comm] using hres
    have bus : IdealBus N D (passesAhead N D s ws rs rest events (r :: R)) := hb.of_passesRun events
    obtain ⟨stack', hstands, hrun⟩ := searchLoop_ideal_succ bus hr h (replicate_mul_succ _ _ _ _)
      (replicate_mul_succ _ _ _ _) (List.append_assoc _ _ _) (results := results) (overCapacity_mono (by simp) hres)
    have step := ih hR hstands fits (events ++ idealPassEvents s N D r.path)
    rw [List.length_cons, Nat.add_right_comm, hrun, passesAhead, passesRun_passesRun, idealPassEvents_passesRun]
    rw [passesAhead] at step
    rw [step]
    simp

end

/-! ## The counts (44_search.md R201) -/

theorem readCount_append (xs ys : List Event) : readCount (xs ++ ys) = readCount xs + readCount ys := by
  induction xs with
  | nil => simp [readCount]
  | cons x xs ih => cases x <;> simp [readCount, ih, Nat.add_right_comm]

/-- A count of the events that adds up over lists. -/
theorem count_flatten {α : Type} {count : List Event → Nat} (hnil : count [] = 0)
    (happend : ∀ xs ys, count (xs ++ ys) = count xs + count ys) {f : α → List Event} {k : Nat} (hf : ∀ x, count (f x) = k)
    (xs : List α) : count (xs.map f).flatten = k * xs.length := by
  induction xs with
  | nil => simpa using hnil
  | cons x xs ih => rw [List.map_cons, List.flatten_cons, happend, hf, ih, List.length_cons, Nat.mul_succ, Nat.add_comm]

theorem writeCount_idealPassEvents (s : State) (N : Nat) (D : List (List Bool)) (d : List Bool) :
    writeCount (idealPassEvents s N D d) = 2 + 3 * N := by
  rw [idealPassEvents_eq, writeCount_append,
    count_flatten rfl writeCount_append (f := levelEvents s D d) (k := 3) (fun _ => rfl), List.length_range']
  rfl

theorem readCount_idealPassEvents (s : State) (N : Nat) (D : List (List Bool)) (d : List Bool) :
    readCount (idealPassEvents s N D d) = 1 + 2 * N := by
  rw [idealPassEvents_eq, readCount_append,
    count_flatten rfl readCount_append (f := levelEvents s D d) (k := 2) (fun _ => rfl), List.length_range']
  rfl

/-- Settles O46: the empty path stands for all devices, and each pass finds the first that is left. -/
theorem searchFindsTheIdealBus : Obligations.SearchFindsTheIdealBus := by
  rintro s N D paths ws rs rest events hi hN hf hres hD hv rfl hsort hw hr hs rfl
  refine ⟨?_, ?_, ?_⟩
  · rw [count_flatten rfl writeCount_append (writeCount_idealPassEvents s N _), List.length_map]
  · rw [count_flatten rfl readCount_append (readCount_idealPassEvents s N _), List.length_map]
  have hlen : ∀ e ∈ D.map Device.path, e.length = N := List.forall_mem_map.mpr fun d hd => (hv d hd).length
  have hb : IdealBus N (D.map Device.path) s := ⟨hi, hN, hf, hlen, hsort⟩
  obtain ⟨r, R, rfl⟩ := List.exists_cons_of_ne_nil hD
  obtain ⟨hvr, hvR⟩ := List.forall_mem_cons.mp hv
  rw [List.length_cons, replicate_mul_succ] at hw hr
  obtain ⟨stack, hstands, hrun⟩ := searchLoop_ideal_succ hb hvr (.all (List.cons_ne_nil _ _)) hw hr
    (hs.trans (List.append_assoc _ _ _)) (results := []) (overCapacity_mono (by simp) hres)
  have bound : 2 ^ s.params.romBits ≤ R.length + 2 ^ s.params.romBits + 1 := by omega
  have found := searchLoop_ideal (ws := ws) (rs := rs) (rest := rest) hb hvR hstands (results := [r.code])
    (by rw [List.length_singleton, Nat.add_comm]; exact hres) (2 ^ s.params.romBits)
    (idealPassEvents s N ((r :: R).map Device.path) r.path)
  have loop := (searchEndsWithinItsBound s _ bound).symm.trans ((hrun _).trans found)
  rw [exec_search_of_loop hi loop]
  simp [respond, passesRun, slotsRun]

end Sys2Proof.Machine
end

section
/-! PROOF. Illegal words, and what every command that completes does to the session: one response, and no transport call
where the transport is dead (60_exceptions.md R220, R227, R228). -/

namespace Sys2Proof.Machine

/-! ## Illegal words (60_exceptions.md R228) -/

theorem step_of_illegal {s : State} {w : Word} {rest : List HostInput} (hq : s.hostQueue = .command w :: rest)
    (hw : ∀ i, decode w ≠ .ok i) :
    step s = .next (respond .illegal [.num w.toNat] { s with hostQueue := rest }) := by
  rw [step_of_issued hq, runInput, runWord]
  split
  · next i hd => exact absurd hd (hw i)
  · rfl

/-- The rows of a word's opcode are one row (30_encoding.md R77). -/
theorem row_eq_of_op_eq {r₁ r₂ : OpcodeRow} (h₁ : r₁ ∈ opcodeRows) (h₂ : r₂ ∈ opcodeRows) (h : r₁.op = r₂.op) :
    r₁ = r₂ := List.inj_on_of_nodup_map opcodeRows_nodup h₁ h₂ h

/-- Settles O5: a word that decodes matches the one row of its opcode and meets its value constraint, so a word of one of
the three kinds does not decode. -/
theorem illegalWordOnlyAnswers : Obligations.IllegalWordOnlyAnswers := by
  intro s w rest hq hill
  refine step_of_illegal hq fun i hd => ?_
  obtain ⟨row, hrow, hmatch, htq, hrdreg⟩ := (decodesExactlyTheRows w).1.mp ⟨i, hd⟩
  have hop : w.extractLsb' 24 8 = row.op := opField_of_matches hmatch
  rw [hop] at hill
  rcases hill with hnone | ⟨r, hr, hrop, hne⟩ | ⟨hop', hlt⟩ | ⟨hop', hlt⟩
  · exact hnone row hrow rfl
  · cases row_eq_of_op_eq hr hrow hrop
    exact hne hmatch
  · exact Nat.not_lt.mpr (htq hop') hlt
  · exact Nat.not_lt.mpr (hrdreg hop') hlt

/-! ## One response (60_exceptions.md R220) -/

/-- A command that completes appends one response and notes its status; what the host has still to issue, the parameters
and the configuration are as before, and the trace has only grown. -/
structure AnsweredOnce (s t : State) : Prop where
  response : ∃ r : Response, t.responses = s.responses ++ [r] ∧ t.lastStatus = r.status
  hostQueue : t.hostQueue = s.hostQueue
  trace : s.trace <+: t.trace
  params : t.params = s.params
  cfgDataPin : t.cfgDataPin = s.cfgDataPin
  cfgPullup : t.cfgPullup = s.cfgPullup
  cfgOdSupported : t.cfgOdSupported = s.cfgOdSupported

theorem KeepsSession.answeredOnce {s u : State} (h : KeepsSession s u) (status : Status) (values : List Value) :
    AnsweredOnce s (respond status values u) where
  response := ⟨⟨status, values⟩, by rw [respond_responses, h.responses], rfl⟩
  hostQueue := h.hostQueue
  trace := h.trace
  params := h.params
  cfgDataPin := h.cfgDataPin
  cfgPullup := h.cfgPullup
  cfgOdSupported := h.cfgOdSupported

theorem QuietRun.answeredOnce {i : Instr} {s u : State} (h : QuietRun s i u) (status : Status) (values : List Value) :
    AnsweredOnce s (respond status values u) := by
  obtain ⟨mode, width, acc, rfl, -⟩ := h.fields
  exact ⟨⟨⟨status, values⟩, rfl, rfl⟩, rfl, List.prefix_refl _, rfl, rfl, rfl, rfl⟩

theorem exec_answeredOnce {i : Instr} {s t : State} (h : exec i s = .next t) : AnsweredOnce s t := by
  cases hc : busCommand i with
  | none =>
    obtain ⟨u, status, values, rfl, hu, -⟩ := exec_quiet_next hc h
    exact hu.answeredOnce status values
  | some c =>
    obtain ⟨u, status, values, rfl, hu, -⟩ := exec_busCommand_next hc h
    exact hu.toKeepsSession.answeredOnce status values

theorem runWord_answeredOnce {w : Word} {s t : State} (h : runWord w s = .next t) : AnsweredOnce s t := by
  unfold runWord at h
  split at h
  · exact exec_answeredOnce h
  · cases h
    exact (KeepsSession.refl s).answeredOnce _ _

/-- Settles O52: every command that answers a next state, and every illegal word, ends with its one response. -/
theorem commandAnswersOnce : Obligations.CommandAnswersOnce := by
  intro s t w rest hq hstep
  rw [step_of_issued hq] at hstep
  have h := runWord_answeredOnce hstep
  obtain ⟨r, hr, hstatus⟩ := h.response
  exact ⟨r, hr, hstatus, h.hostQueue, h.trace, h.params, h.cfgDataPin, h.cfgPullup, h.cfgOdSupported⟩

/-! ## A dead transport (60_exceptions.md R227) -/

/-- The transport stays dead and no call is made. -/
def StaysDead (s t : State) : Prop := t.transportDead = true ∧ t.trace = s.trace

section
variable {s : State} (hd : s.transportDead = true)
include hd

theorem StaysDead.refl : StaysDead s s := ⟨hd, rfl⟩

/-- Outside a batch a slot command raises UsbError; inside one it only appends. -/
theorem bitCommand_staysDead (c : SlotCommand) : (bitCommand c.body s).Ends (StaysDead s) := by
  unfold bitCommand
  split
  · trivial
  · rcases withBatch_cases c.body s with ⟨-, h⟩ | ⟨-, -, h⟩ | ⟨-, halive, -⟩
    · rw [h, c.body_eq]
      exact .ifRoom fun _ => ⟨hd, rfl⟩
    · rw [h]
      exact ⟨.refl hd, by simp⟩
    · exact absurd (hd.symm.trans halive) (by decide)

theorem flushCommand_staysDead : (flushCommand s).Ends (StaysDead s) := by
  simp only [flushCommand, hd, if_true]
  split
  · exact ⟨.refl hd, by simp⟩
  · exact ⟨⟨hd, rfl⟩, by simp⟩

theorem resetCommand_staysDead : (resetCommand s).Ends (StaysDead s) := by
  simp only [resetCommand, hd, if_true]
  split
  · exact ⟨.refl hd, by simp⟩
  · exact ⟨.refl hd, by simp⟩

theorem searchCommand_staysDead : (searchCommand s).Ends (StaysDead s) := by
  simp only [searchCommand, hd, if_true]
  split
  · exact ⟨.refl hd, by simp⟩
  · exact ⟨.refl hd, by simp⟩

theorem pullupCommand_staysDead (us : Nat) : (pullupCommand us s).Ends (StaysDead s) := by
  simp only [pullupCommand, hd, if_true]
  split
  · exact ⟨.refl hd, by simp⟩
  · split
    · exact ⟨.refl hd, by simp⟩
    · exact ⟨⟨rfl, rfl⟩, by simp⟩

theorem busCommand_staysDead {i : Instr} {c : State → Res (List Value)} (hc : busCommand i = some c) :
    (c s).Ends (StaysDead s) := by
  cases i <;> cases hc
  case beginBatch =>
    dsimp only
    split
    · exact ⟨.refl hd, by simp⟩
    · exact ⟨hd, rfl⟩
  case flush => exact flushCommand_staysDead hd
  case reset => exact resetCommand_staysDead hd
  case wbit b => exact bitCommand_staysDead hd (.wbit b)
  case rbit => exact bitCommand_staysDead hd .rbit
  case wbyte d => exact bitCommand_staysDead hd (.wbyte d)
  case rbyte => exact bitCommand_staysDead hd .rbyte
  case pullup u => exact pullupCommand_staysDead hd _
  case search => exact searchCommand_staysDead hd

theorem exec_staysDead {i : Instr} {t : State} (h : exec i s = .next t) : StaysDead s t := by
  cases hc : busCommand i with
  | none =>
    obtain ⟨u, status, values, rfl, hu, -⟩ := exec_quiet_next hc h
    obtain ⟨mode, width, acc, rfl, -⟩ := hu.fields
    exact ⟨hd, rfl⟩
  | some c =>
    obtain ⟨u, status, values, rfl, hu, -⟩ := (busCommand_staysDead hd hc).finish (exec_busCommand hc s ▸ h)
    exact hu

theorem runWord_staysDead {w : Word} {t : State} (h : runWord w s = .next t) : StaysDead s t := by
  unfold runWord at h
  split at h
  · exact exec_staysDead hd h
  · cases h
    exact ⟨hd, rfl⟩

end

/-- Settles O53: every command that would call the transport finds it dead first. -/
theorem deadTransportIsSticky : Obligations.DeadTransportIsSticky := by
  intro s t w rest hq hd hstep
  rw [step_of_issued hq] at hstep
  exact runWord_staysDead (s := { s with hostQueue := rest }) hd hstep

end Sys2Proof.Machine
end

section
/-! PROOF. What an error leaves: the two flags, the batch, and nothing else for misuse (60_exceptions.md R223). -/

namespace Sys2Proof.Machine

/-! ## The state that goes with a status -/

/-- The transport's flag is as before, and the bus is suspect only if it was. -/
def SameFlags (s t : State) : Prop :=
  t.transportDead = s.transportDead ∧ (t.busSuspect = true → s.busSuspect = true)

theorem SameFlags.transportDead {s t : State} (h : SameFlags s t) : t.transportDead = s.transportDead := h.1

theorem SameFlags.busSuspect {s t : State} (h : SameFlags s t) : t.busSuspect = true → s.busSuspect = true := h.2

theorem SameFlags.refl (s : State) : SameFlags s s := ⟨rfl, id⟩

theorem SameFlags.trans {s t u : State} (h : SameFlags s t) (k : SameFlags t u) : SameFlags s u :=
  ⟨k.transportDead.trans h.transportDead, h.busSuspect ∘ k.busSuspect⟩

/-- The batch is idle and empty. -/
structure BatchGone (s : State) : Prop where
  collecting : s.collecting = false
  buf : s.buf = []
  pend : s.pend = []

/-- In which state a command that began in `s` ends with each status (60_exceptions.md R223): misuse changes nothing, a
TimeoutError makes the bus suspect, a UsbError leaves the transport dead, both leave no batch, and nothing else sets a
flag. -/
inductive Leaves (s : State) : Status → State → Prop
  | flags {status : Status} {t : State} (h : SameFlags s t) (hs : status = .ok ∨ status = .comms ∨ status = .crc) :
      Leaves s status t
  | misuse {status : Status} (hs : status = .protocol ∨ status = .illegal) : Leaves s status s
  | timeout {t : State} (suspect : t.busSuspect = true) (dead : t.transportDead = s.transportDead) (gone : BatchGone t) :
      Leaves s .timeout t
  | usb {t : State} (dead : t.transportDead = true) (suspect : t.busSuspect = true → s.busSuspect = true)
      (gone : BatchGone t) : Leaves s .usb t

/-- A pseudocode that goes on has set no flag, and one that raises leaves what its error leaves. -/
def Res.Leaves {α : Type} (s : State) : Res α → Prop
  | .ok _ t => SameFlags s t
  | .raise e t => Machine.Leaves s e.status t
  | .stop _ _ => True

theorem Res.Leaves.andThen {α β : Type} {s : State} {r : Res α} {k : α → State → Res β} (h : r.Leaves s)
    (hk : ∀ a t, SameFlags s t → (k a t).Leaves s) : (r.andThen k).Leaves s := by
  cases r with
  | ok a t => exact hk a t h
  | raise e t => exact h
  | stop r t => trivial

theorem Res.Leaves.ifRoom {α : Type} {s t : State} {k : State → Res α} (hk : (k t).Leaves s) :
    (Machine.ifRoom t k).Leaves s := by
  unfold Machine.ifRoom
  split
  · trivial
  · exact hk

theorem Res.Leaves.finish {s t : State} {r : Res (List Value)} (h : r.Leaves s) (hf : Machine.finish r = .next t) :
    ∃ u status values, t = respond status values u ∧ Machine.Leaves s status u := by
  cases r with
  | ok vs u => exact ⟨u, .ok, vs, (Host.Outcome.next.inj hf).symm, .flags h (.inl rfl)⟩
  | raise e u => exact ⟨u, e.status, e.info, (Host.Outcome.next.inj hf).symm, h⟩
  | stop r u => cases hf

/-! ## `Flush()` and the batches of a command -/

theorem txWrite_flags (elems : List Elem) (s : State) : SameFlags s (txWrite elems s).2 := by
  obtain ⟨_, _, hw⟩ := txWrite_cases elems s
  rw [hw]
  exact .refl s

theorem txRead_flags (n : Nat) (s : State) : SameFlags s (txRead n s).2 := by
  obtain ⟨_, _, _, hr⟩ := txRead_cases n s
  rw [hr]
  exact .refl s

theorem flush_gone (s : State) : BatchGone (flush s).state := by
  obtain ⟨hc, hb, hp⟩ := flush_idle s
  exact ⟨hc, hb, hp⟩

/-- A failed call sets the flag of its error, and the batch is gone before the calls. -/
theorem flush_leaves {s t : State} (h : SameFlags s t) : (flush t).Leaves s := by
  have write : SameFlags s (txWrite t.buf (clearBatch t)).2 := h.trans (txWrite_flags t.buf (clearBatch t))
  have read := write.trans (txRead_flags (nsamp t.buf) _)
  have gone := flush_gone t
  rcases flush_cases t with ⟨-, hf⟩ | ⟨-, u, hu, hf⟩ | ⟨-, -, u, hu, hf⟩ | ⟨-, -, u, v, hu, hv, hf⟩ |
    ⟨-, -, u, v, hu, hv, hf⟩ | ⟨-, -, u, v, bs, hu, hv, hf⟩ <;> rw [hf] at gone ⊢
  · exact h
  all_goals rw [hu] at write read
  · exact .usb rfl write.busSuspect gone
  · exact write
  all_goals rw [hv] at read
  · exact .usb rfl read.busSuspect gone
  · exact .timeout rfl read.transportDead gone
  · exact read

theorem SameFlags.body {s t : State} (h : SameFlags s t) (c : SlotCommand) : SameFlags s (c.body t).2 := by
  rw [c.body_eq]
  exact h

theorem slotBatch_leaves {s t : State} (h : SameFlags s t) (c : SlotCommand) :
    (ifRoom (c.body { t with collecting := true }).2 flush).Leaves s := by
  have opened : SameFlags s { t with collecting := true } := h
  exact .ifRoom (flush_leaves (opened.body c))

/-- An implicit batch finds the transport dead only where no batch is open to be lost. -/
theorem implicitBatch_leaves {s t : State} (h : SameFlags s t) (hg : s.transportDead = true → BatchGone t)
    (c : SlotCommand) : (implicitBatch c.body t).Leaves s := by
  unfold implicitBatch
  split
  · next hd => exact .usb hd h.busSuspect (hg (h.transportDead ▸ hd))
  · exact slotBatch_leaves h c

theorem resetOnce_leaves {s t : State} (h : SameFlags s t) : (resetOnce t).Leaves s := by
  have slot : SameFlags s (resetSlot (pendRead .rst { t with collecting := true }).2) := by
    rw [resetSlot_eq]
    exact h
  have flushed := Res.Leaves.ifRoom (flush_leaves slot)
  exact flushed.andThen fun _ _ hu => ⟨hu.transportDead, nofun⟩

theorem resetBody_leaves {s t : State} (h : SameFlags s t) : (resetBody t).Leaves s := by
  refine (resetOnce_leaves h).andThen fun p u hu => ?_
  split
  · have retry : (resetOnce { u with mode := .std }).Leaves s := resetOnce_leaves hu
    exact retry.andThen fun _ _ => id
  · exact hu

/-! ## The commands of the batch and of the bus -/

theorem beginBatch_leaves (s : State) :
    Res.Leaves s (if s.collecting then .raise (protocolViolation 1) s
      else .ok ([] : List Value) { s with collecting := true }) := by
  split
  · exact .misuse (.inl rfl)
  · exact ⟨rfl, id⟩

theorem flushCommand_leaves (s : State) : (flushCommand s).Leaves s := by
  unfold flushCommand
  split
  · exact .misuse (.inl rfl)
  · split
    · next hd => exact .usb hd id ⟨rfl, rfl, rfl⟩
    · exact (flush_leaves (.refl s)).andThen fun _ _ => id

section
variable {s : State} (hg : s.collecting = false → BatchGone s)
include hg

theorem resetCommand_leaves : (resetCommand s).Leaves s := by
  unfold resetCommand
  split
  · exact .misuse (.inl rfl)
  · next hc =>
    split
    · next hd => exact .usb hd id (hg (Bool.eq_false_iff.mpr hc))
    · exact (resetBody_leaves (.refl s)).andThen fun _ _ => id

theorem bitCommand_leaves (c : SlotCommand) : (bitCommand c.body s).Leaves s := by
  unfold bitCommand
  split
  · trivial
  · unfold withBatch
    split
    · exact .ifRoom (SameFlags.body (.refl s) c)
    · next hc =>
      exact (implicitBatch_leaves (.refl s) (fun _ => hg (Bool.eq_false_iff.mpr hc)) c).andThen fun _ _ => id

end

/-! ### SEARCH -/

section
variable {s t : State} (hd : s.transportDead = false)
include hd

theorem slots_leaves (h : SameFlags s t) (c : SlotCommand) : (implicitBatch c.body t).Leaves s :=
  implicitBatch_leaves h (fun hs => absurd (hd.symm.trans hs) (by decide)) c

theorem pollBit_leaves (h : SameFlags s t) : (pollBit t).Leaves s :=
  (slots_leaves hd h .rbit).andThen fun _ _ => id

theorem searchLevels_leaves (h : SameFlags s t) (P : List Bool) (n : Nat) (cur : List Bool) (stack : List (List Bool)) :
    (searchLevels P n cur stack t).Leaves s := by
  induction n generalizing cur stack t with
  | zero => exact h
  | succ n ih =>
    rw [searchLevels_succ]
    refine (pollBit_leaves hd h).andThen fun a u hu => (pollBit_leaves hd hu).andThen fun c v hv => ?_
    cases chooseLevel P cur.length a c with
    | comms => exact .flags hv (.inr (.inl rfl))
    | pathEmpty => exact hv
    | take b => exact (slots_leaves hd hv (.wbit b)).andThen fun _ _ hw => ih hw _ _
    | fork => exact (slots_leaves hd hv (.wbit false)).andThen fun _ _ hw => ih hw _ _

theorem searchPass_leaves (h : SameFlags s t) (P : List Bool) (stack : List (List Bool)) :
    (searchPass P stack t).Leaves s := by
  refine (resetBody_leaves h).andThen fun p u hu => ?_
  split
  · exact hu
  · refine (slots_leaves hd hu (.wbyte _)).andThen fun _ v hv =>
      (searchLevels_leaves hd hv P _ [] stack).andThen fun out w hw => ?_
    split
    · exact hw
    · unfold checkCode
      split
      · exact .flags hw (.inr (.inr rfl))
      · exact hw

theorem searchLoop_leaves (h : SameFlags s t) (fuel : Nat) (stack : List (List Bool)) (results : List (List Byte)) :
    (searchLoop fuel stack results t).Leaves s := by
  induction fuel generalizing stack results t with
  | zero => exact h
  | succ fuel ih =>
    cases stack with
    | nil => exact h
    | cons P stack =>
      refine (searchPass_leaves hd h P stack).andThen fun out u hu => ?_
      split
      · exact ih hu _ _
      · split
        · trivial
        · exact ih hu _ _

end

theorem searchCommand_leaves {s : State} (hg : s.collecting = false → BatchGone s) : (searchCommand s).Leaves s := by
  unfold searchCommand
  split
  · exact .misuse (.inl rfl)
  · next hc =>
    split
    · next hd => exact .usb hd id (hg (Bool.eq_false_iff.mpr hc))
    · next hd => exact (searchLoop_leaves (Bool.eq_false_iff.mpr hd) (.refl s) _ _ _).andThen fun _ _ => id

/-! ### PULLUP -/

theorem pullupWait_leaves (us : Nat) (s : State) : (pullupWait us s).Leaves s := by
  unfold pullupWait
  split
  · next q _ =>
    have raised : (ifRoom (setPullup q true s) flush).Leaves s := .ifRoom (flush_leaves ⟨rfl, id⟩)
    refine raised.andThen fun _ t ht => .ifRoom (flush_leaves ⟨ht.transportDead, ht.busSuspect⟩)
  · exact (flush_leaves (.refl s)).andThen fun _ _ ht => ⟨ht.transportDead, ht.busSuspect⟩

theorem pullupRead_leaves {s t : State} (h : SameFlags s t) : (pullupRead t).Leaves s := by
  have read := slotBatch_leaves h .rbyte
  exact read.andThen fun _ _ => id

theorem pullupCommand_leaves (us : Nat) (s : State) : (pullupCommand us s).Leaves s := by
  unfold pullupCommand
  split
  · exact .misuse (.inl rfl)
  · split
    · exact .misuse (.inl rfl)
    · next hp =>
      split
      · next hd => exact .usb hd id ⟨rfl, rfl, not_not.mp hp⟩
      · split
        · trivial
        · exact (pullupWait_leaves us s).andThen fun _ _ => pullupRead_leaves

theorem busCommand_leaves {i : Instr} {c : State → Res (List Value)} (hc : busCommand i = some c) {s : State}
    (hg : s.collecting = false → BatchGone s) : (c s).Leaves s := by
  cases i <;> cases hc
  case beginBatch => exact beginBatch_leaves s
  case flush => exact flushCommand_leaves s
  case reset => exact resetCommand_leaves hg
  case wbit b => exact bitCommand_leaves hg (.wbit b)
  case rbit => exact bitCommand_leaves hg .rbit
  case wbyte d => exact bitCommand_leaves hg (.wbyte d)
  case rbyte => exact bitCommand_leaves hg .rbyte
  case pullup u => exact pullupCommand_leaves _ s
  case search => exact searchCommand_leaves hg

/-! ## Every command word -/

/-- The commands that touch no transport end well, with a CrcError, or as misuse. -/
theorem exec_quiet_leaves {i : Instr} {s t : State} (hq : busCommand i = none) (h : exec i s = .next t) :
    ∃ u status values, t = respond status values u ∧ Leaves s status u := by
  cases i <;> cases hq
  case nop | tqn | crcr | crci | crcb =>
    exact ⟨_, .ok, _, (Host.Outcome.next.inj h).symm, .flags ⟨rfl, id⟩ (.inl rfl)⟩
  case tq iv =>
    rw [exec, execTq] at h
    split at h
    · exact ⟨s, _, _, (Host.Outcome.next.inj h).symm, .misuse (.inr rfl)⟩
    · split at h
      · cases h
      · exact ⟨s, _, _, (Host.Outcome.next.inj h).symm, .flags (.refl s) (.inl rfl)⟩
  case rdreg r =>
    rw [exec, execRdreg] at h
    split at h
    · exact ⟨s, _, _, (Host.Outcome.next.inj h).symm, .misuse (.inr rfl)⟩
    · exact ⟨s, _, _, (Host.Outcome.next.inj h).symm, .flags (.refl s) (.inl rfl)⟩
  case mode m =>
    refine Res.Leaves.finish (s := s) ?_ h
    split
    · exact .misuse (.inl rfl)
    · exact ⟨rfl, id⟩
  case crcc =>
    refine Res.Leaves.finish (s := s) ?_ h
    split
    · exact .flags (.refl s) (.inr (.inr rfl))
    · exact ⟨rfl, id⟩

theorem exec_leaves {i : Instr} {s t : State} (hg : s.collecting = false → BatchGone s) (h : exec i s = .next t) :
    ∃ u status values, t = respond status values u ∧ Leaves s status u := by
  cases hc : busCommand i with
  | none => exact exec_quiet_leaves hc h
  | some c => exact (busCommand_leaves hc hg).finish (exec_busCommand hc s ▸ h)

theorem runWord_leaves {w : Word} {s t : State} (hg : s.collecting = false → BatchGone s) (h : runWord w s = .next t) :
    ∃ u status values, t = respond status values u ∧ Leaves s status u := by
  unfold runWord at h
  split at h
  · exact exec_leaves hg h
  · exact ⟨s, _, _, (Host.Outcome.next.inj h).symm, .misuse (.inr rfl)⟩

/-- Settles O54: the response's status says how the command ended, and each end leaves what R223 says. -/
theorem stateAfterAnError : Obligations.StateAfterAnError := by
  intro s t w rest r hb hq hstep hr
  obtain ⟨r', hr', hlast, -⟩ := commandAnswersOnce s t w rest hq hstep
  obtain rfl : r' = r := List.singleton_inj.mp (List.append_cancel_left (hr'.symm.trans hr))
  rw [step_of_issued hq] at hstep
  have gone : s.collecting = false → BatchGone { s with hostQueue := rest } := fun hc =>
    ⟨hc, (hb.idleEmpty hc).1, (hb.idleEmpty hc).2⟩
  obtain ⟨u, status, values, rfl, hu⟩ := runWord_leaves gone hstep
  rw [← hlast, respond_lastStatus]
  cases hu with
  | flags h hs =>
    refine ⟨?_, ?_, ?_, fun _ => h.busSuspect, fun _ => h.transportDead, ?_⟩
    all_goals rcases hs with rfl | rfl | rfl <;> simp
  | misuse hs =>
    refine ⟨fun _ => by rw [← hr]; rfl, ?_, ?_, fun _ => id, fun _ => rfl, ?_⟩
    all_goals rcases hs with rfl | rfl <;> simp
  | timeout suspect dead gone =>
    exact ⟨by simp, fun _ => suspect, nofun, fun h => absurd rfl h, fun _ => dead,
      fun _ => ⟨gone.collecting, gone.buf, gone.pend⟩⟩
  | usb dead suspect gone =>
    exact ⟨by simp, nofun, fun _ => dead, fun _ => suspect, fun h => absurd rfl h,
      fun _ => ⟨gone.collecting, gone.buf, gone.pend⟩⟩

end Sys2Proof.Machine
end

section
/-! PROOF. SEARCH where a pass fails: at a poll that no set of devices gives, and at a code with a nonzero residue
(44_search.md R193, R195, R196, R202, 60_exceptions.md R222). -/

namespace Sys2Proof.Machine

/-! ## Levels whose polls force a bit (44_search.md R192) -/

/-- The remembered path P has no other bit than `path` where both have one. -/
def Agrees (P path : List Bool) : Prop := ∀ (i : Nat) (x y : Bool), P[i]? = some x → path[i]? = some y → x = y

theorem agrees_nil (path : List Bool) : Agrees [] path := by simp [Agrees]

theorem agrees_of_prefix {P path : List Bool} (h : path <+: P) : Agrees P path := by
  obtain ⟨later, rfl⟩ := h
  intro i x y hx hy
  obtain ⟨hlt, -⟩ := List.getElem?_eq_some_iff.mp hy
  rw [List.getElem?_append_left hlt, hy] at hx
  exact (Option.some.inj hx).symm

/-- A bit on which the active devices agree is taken, if the remembered path does not contradict it. -/
theorem chooseLevel_of_forced {P path : List Bool} {i : Nat} {b : Bool} (hP : Agrees P path) (hb : path[i]? = some b) :
    chooseLevel P i b (!b) = .take b := by
  cases hi : P[i]? with
  | none => simp [chooseLevel, hi]
  | some x =>
    obtain rfl := hP i x b hi hb
    rw [chooseLevel_of_replay hi]
    cases x <;> rfl

/-- The events of levels that force the bits of d. -/
def forcedEvents (s : State) (d : List Bool) : List Event :=
  (d.map fun b => pollEvents s b b (!b) (!b) ++ [.txWrite (writeElems s b)]).flatten

section
variable (s : State) (d : List Bool) (ws : List WriteAnswer) (rs : List ReadKind) (rest : List Bool)

/-- The state in a pass when the coming levels are answered and force the bits of d. -/
def forcedAhead (events : List Event) : State :=
  slotsRun s events (List.replicate (3 * d.length) WriteAnswer.ok ++ ws)
    (List.replicate (2 * d.length) ReadKind.bits ++ rs) (forcedPolls d ++ rest)

theorem forcedAhead_cons (b : Bool) (events : List Event) :
    forcedAhead s (b :: d) ws rs rest events =
      slotsRun s events (.ok :: .ok :: .ok :: (List.replicate (3 * d.length) WriteAnswer.ok ++ ws))
        (.bits :: .bits :: (List.replicate (2 * d.length) ReadKind.bits ++ rs))
        (b :: b :: (!b) :: (!b) :: (forcedPolls d ++ rest)) := rfl

variable {s d ws rs rest}

/-- Levels that force the bits of d take them, in the replay region and after it. -/
theorem searchLevels_of_forced (hi : Idle s) (hf : fitsBatch s 7) {P cur : List Bool} (hP : Agrees P (cur ++ d))
    (n : Nat) (stack : List (List Bool)) (events : List Event) :
    searchLevels P (d.length + n) cur stack (forcedAhead s d ws rs rest events) =
      searchLevels P n (cur ++ d) stack (slotsRun s (events ++ forcedEvents s d) ws rs rest) := by
  induction d generalizing cur events with
  | nil => simp [forcedAhead, forcedEvents, forcedPolls]
  | cons b d ih =>
    have take : chooseLevel P cur.length b (!b) = .take b := chooseLevel_of_forced hP (by simp)
    have path : cur ++ b :: d = (cur ++ [b]) ++ d := by simp
    rw [path] at hP ⊢
    rw [List.length_cons, Nat.add_right_comm, forcedAhead_cons,
      searchLevels_of_take (hi.slotsRun _ _ _ _) hf rfl rfl rfl take, slotsRun_slotsRun]
    refine (ih hP _).trans ?_
    simp [forcedEvents]

/-- All levels of a pass may be forced. -/
theorem searchLevels_of_allForced (hi : Idle s) (hf : fitsBatch s 7) {P cur : List Bool} (hP : Agrees P (cur ++ d))
    (stack : List (List Bool)) (events : List Event) :
    searchLevels P d.length cur stack (forcedAhead s d ws rs rest events) =
      .ok (some (cur ++ d), stack) (slotsRun s (events ++ forcedEvents s d) ws rs rest) :=
  searchLevels_of_forced hi hf hP 0 stack events

/-- Of a fork between forced levels the first pass takes the branch of 0 and pushes that of 1. -/
theorem searchLevels_of_forkedForced (hi : Idle s) (hf : fitsBatch s 7) (e : List Bool) (stack : List (List Bool))
    (events : List Event) :
    ∃ events', searchLevels [] (d.length + (e.length + 1)) [] stack (forcedAhead s d
        (.ok :: .ok :: .ok :: (List.replicate (3 * e.length) WriteAnswer.ok ++ ws))
        (.bits :: .bits :: (List.replicate (2 * e.length) ReadKind.bits ++ rs))
        (false :: false :: false :: false :: (forcedPolls e ++ rest)) events) =
      .ok (some (d ++ [false] ++ e), (d ++ [true]) :: stack) (slotsRun s events' ws rs rest) := by
  have fork : chooseLevel [] d.length false false = .fork := rfl
  rw [searchLevels_of_forced hi hf (agrees_nil _), List.nil_append,
    searchLevels_of_fork (hi.slotsRun _ _ _ _) hf rfl rfl rfl fork, slotsRun_slotsRun]
  exact ⟨_, searchLevels_of_allForced hi hf (agrees_nil _) _ _⟩

end

/-- Answers that are all alike, taken in three parts. -/
theorem replicate_split {α : Type} {m k n total : Nat} {a : α} {rest : List α} (h : total = m + k + n) :
    List.replicate total a ++ rest =
      List.replicate m a ++ (List.replicate k a ++ (List.replicate n a ++ rest)) := by
  rw [h, List.replicate_add, List.replicate_add, List.append_assoc, List.append_assoc]

theorem Idle.resetSuspect {s : State} (hi : Idle s) : Idle { s with busSuspect := false } :=
  ⟨hi.idle, hi.bufEmpty, hi.pendEmpty, hi.alive⟩

/-! ## How a pass ends (44_search.md R191) -/

section
variable {s : State} {N : Nat} {P : List Bool} {stack : List (List Bool)} {ws : List WriteAnswer} {rs : List ReadKind}
  {rest : List Bool} (hi : Idle s) (hf : fitsBatch s 32) (hN : s.params.romBits = N)
include hi hf hN

/-- An error of its levels is an error of the pass. -/
theorem searchPass_of_levelsRaise {t : State} {e : Err} (hw : s.writeAnswers = .ok :: .ok :: ws)
    (hr : s.readAnswers = .bits :: rs) (hs : s.samples = false :: true :: rest)
    (h : searchLevels P N [] stack (passStart s ws rs rest) = .raise e t) : searchPass P stack s = .raise e t := by
  have levels : searchLevels P (passStart s ws rs rest).params.romBits [] stack (passStart s ws rs rest) = .raise e t :=
    hN ▸ h
  rw [searchPass, resetBody_of_present hi (overCapacity_mono (by decide) hf) hw hr hs, Res.andThen_ok,
    if_neg (by decide), show (presentState s (.ok :: ws) rs rest).params = s.params from rfl,
    searchCmd_of_present hi hf, Res.andThen_ok, levels, Res.andThen_raise]

/-- After m levels that force the bits of d, a poll that no set of devices gives ends the pass with CommsError. -/
theorem searchPass_of_comms {d : List Bool} {m : Nat} {a x c y : Bool} (hP : Agrees P d) (hd : d.length = m) (hm : m < N)
    (hc : chooseLevel P m a c = .comms) (hw : s.writeAnswers = List.replicate (4 + 3 * m) WriteAnswer.ok ++ ws)
    (hr : s.readAnswers = List.replicate (3 + 2 * m) ReadKind.bits ++ rs)
    (hs : s.samples = [false, true] ++ forcedPolls d ++ [a, x, c, y] ++ rest) :
    ∃ events, searchPass P stack s = .raise (commsError m a c) (passesRun s events ws rs rest) := by
  subst hd
  obtain ⟨n, rfl⟩ : ∃ n, N = d.length + (n + 1) := ⟨N - d.length - 1, by omega⟩
  have idle := hi.resetSuspect
  have room : fitsBatch s 7 := overCapacity_mono (by decide) hf
  have levels := searchLevels_of_forced (ws := .ok :: .ok :: ws) (rs := .bits :: .bits :: rs)
    (rest := a :: x :: c :: y :: rest) (cur := []) idle room hP (n + 1) stack (startEvents s)
  rw [List.nil_append, searchLevels_of_polls (idle.slotsRun _ _ _ _) room rfl rfl rfl, hc, actOn, slotsRun_slotsRun]
    at levels
  exact ⟨_, searchPass_of_levelsRaise hi hf hN (hw.trans (replicate_split (m := 2) (n := 2) (by omega)))
    (hr.trans (replicate_split (m := 1) (n := 2) (by omega))) (by simp [hs]) levels⟩

/-- A pass whose levels force all bits resolves them. -/
theorem searchPass_of_allForced {d : List Bool} (hP : Agrees P d) (hd : d.length = N)
    (hw : s.writeAnswers = List.replicate (2 + 3 * N) WriteAnswer.ok ++ ws)
    (hr : s.readAnswers = List.replicate (1 + 2 * N) ReadKind.bits ++ rs)
    (hs : s.samples = [false, true] ++ forcedPolls d ++ rest) :
    ∃ events, searchPass P stack s = checkCode (packCode d) stack (passesRun s events ws rs rest) := by
  subst hd
  have levels := searchLevels_of_allForced (ws := ws) (rs := rs) (rest := rest) (cur := []) hi.resetSuspect
    (overCapacity_mono (by decide) hf) hP stack (startEvents s)
  rw [List.replicate_add, List.append_assoc] at hw hr
  exact ⟨_, searchPass_of_levels hi hf hw hr (by simp [hs]) hN levels⟩

/-- A pass that forks between forced levels resolves the branch of 0 and pushes that of 1. -/
theorem searchPass_of_fork {d e : List Bool} (hde : d.length + 1 + e.length = N)
    (hw : s.writeAnswers = List.replicate (2 + 3 * N) WriteAnswer.ok ++ ws)
    (hr : s.readAnswers = List.replicate (1 + 2 * N) ReadKind.bits ++ rs)
    (hs : s.samples = [false, true] ++ forcedPolls d ++ [false, false, false, false] ++ forcedPolls e ++ rest) :
    ∃ events, searchPass [] stack s =
      checkCode (packCode (d ++ [false] ++ e)) ((d ++ [true]) :: stack) (passesRun s events ws rs rest) := by
  have room : fitsBatch s 7 := overCapacity_mono (by decide) hf
  obtain ⟨events, levels⟩ := searchLevels_of_forkedForced (d := d) (ws := ws) (rs := rs) (rest := rest)
    hi.resetSuspect room e stack (startEvents s)
  rw [← Nat.add_assoc, Nat.add_right_comm, hde] at levels
  exact ⟨events, searchPass_of_levels hi hf (hw.trans (replicate_split (m := 2) (n := 3 * (e.length + 1)) (by omega)))
    (hr.trans (replicate_split (m := 1) (n := 2 * (e.length + 1)) (by omega))) (by simp [hs]) hN levels⟩

end

theorem Idle.passesRun {s : State} (hi : Idle s) (events : List Event) (ws : List WriteAnswer) (rs : List ReadKind)
    (rest : List Bool) : Idle (passesRun s events ws rs rest) :=
  hi.resetSuspect.slotsRun events ws rs rest

theorem checkCode_of_invalid {code : List Byte} (h : crc8 code ≠ 0#8) (stack : List (List Bool)) (s : State) :
    checkCode code stack s = .raise ⟨.crc, .num (crc8 code).toNat :: code.map fun b => .num b.toNat⟩ s := by
  rw [checkCode, if_pos h]

/-! ## How the search ends (44_search.md R202) -/

theorem searchLoop_of_raise {P : List Bool} {stack : List (List Bool)} {s t : State} {e : Err}
    (h : searchPass P stack s = .raise e t) (fuel : Nat) (results : List (List Byte)) :
    searchLoop (fuel + 1) (P :: stack) results s = .raise e t := by
  rw [searchLoop, h, Res.andThen_raise]

/-- An error of the loop, with as many passes as are enough or more, is SEARCH's response. -/
theorem exec_search_of_raise {s t : State} {e : Err} {fuel : Nat} (hi : Idle s)
    (h : searchLoop (2 ^ s.params.romBits + fuel) [[]] [] s = .raise e t) :
    exec .search s = .next (respond e.status e.info t) := by
  have loop := (searchEndsWithinItsBound s _ (Nat.le_add_right _ fuel)).symm.trans h
  rw [exec_search_of_alive hi.idle hi.alive, loop, Res.andThen_raise, finish_raise]

/-- Below the first level of the first pass, a poll that no device answers is no empty path (44_search.md R195). -/
theorem chooseLevel_of_unanswered {i : Nat} (h : 0 < i) : chooseLevel [] i true true = .comms := by
  simp [chooseLevel, h.ne']

/-- A poll contradicts the remembered bit b where no device answers for it (44_search.md R193). -/
theorem chooseLevel_of_contradiction {P : List Bool} {m : Nat} {b a c : Bool} (hb : P[m]? = some b)
    (h : if b = true then c = true else a = true) : chooseLevel P m a c = .comms := by
  rw [chooseLevel_of_replay hb, if_pos]
  cases b
  · exact .inl ⟨rfl, h⟩
  · exact .inr ⟨rfl, h⟩

/-- Settles O49: the first pass meets the poll or completes the bad code, or it finds a code at a fork and the pass that
replays the fork's path meets the poll. -/
theorem searchAnswersItsErrors : Obligations.SearchAnswersItsErrors := by
  intro s N ws rs rest hi hN hf
  refine ⟨fun d x y hpos hlt hw hr hs => ?_, fun d code hd hspells hcrc hw hr hs => ?_,
    fun d e code m b a x c y hde hspells hcrc hres hb hpoll hw hr hs => ?_⟩
  · obtain ⟨events, hpass⟩ := searchPass_of_comms (stack := []) hi hf hN (agrees_nil d) rfl hlt
      (chooseLevel_of_unanswered hpos) hw hr hs
    exact ⟨_, exec_search_of_raise hi (searchLoop_of_raise hpass _ []), rfl, rfl, rfl⟩
  · obtain ⟨events, hpass⟩ := searchPass_of_allForced (stack := []) hi hf hN (agrees_nil d) hd hw hr hs
    rw [packCode_of_spells hspells, checkCode_of_invalid hcrc] at hpass
    exact ⟨_, exec_search_of_raise hi (searchLoop_of_raise hpass _ []), rfl, rfl, rfl⟩
  · obtain ⟨hm, -⟩ := List.getElem?_eq_some_iff.mp hb
    rw [List.length_append, List.length_singleton] at hm
    have writes : 6 + 3 * N + 3 * m = (2 + 3 * N) + (4 + 3 * m) := by omega
    have reads : 4 + 2 * N + 2 * m = (1 + 2 * N) + (3 + 2 * m) := by omega
    rw [writes, List.replicate_add, List.append_assoc] at hw
    rw [reads, List.replicate_add, List.append_assoc] at hr
    obtain ⟨first, hfirst⟩ := searchPass_of_fork (stack := []) hi hf hN hde hw hr
      (rest := [false, true] ++ forcedPolls (d.take m) ++ [a, x, c, y] ++ rest) (by simp [hs])
    rw [packCode_of_spells hspells, checkCode_of_valid hcrc] at hfirst
    have path : Agrees (d ++ [true]) (d.take m) := agrees_of_prefix ((d.take_prefix m).trans (d.prefix_append _))
    obtain ⟨second, hsecond⟩ := searchPass_of_comms (stack := []) (hi.passesRun first _ _ _) hf hN path
      (List.length_take_of_le (by omega)) (by omega) (chooseLevel_of_contradiction hb hpoll) rfl rfl rfl
    have loop := (searchLoop_of_code hfirst (2 ^ s.params.romBits + 1) (results := []) hres).trans
      (searchLoop_of_raise hsecond _ _)
    exact ⟨_, exec_search_of_raise (fuel := 2) hi loop, rfl, rfl, rfl⟩

end Sys2Proof.Machine
end

section
/-! PROOF. INIT: what it refuses, and the session that it creates by the answers to its two transport calls
(70_reset_and_hazards.md R250, R251). -/

namespace Sys2Proof.Machine

/-! ## The transport calls of INIT -/

theorem txSetup_scripted {s : State} {a : WriteAnswer} {ws : List WriteAnswer} (h : s.writeAnswers = a :: ws) :
    txSetup s = (a, { s with trace := s.trace ++ [.setup], writeAnswers := ws }) :=
  drawWrite_scripted (record .setup s) a ws h

theorem txWrite_scripted {s : State} {a : WriteAnswer} {ws : List WriteAnswer} (elems : List Elem)
    (h : s.writeAnswers = a :: ws) :
    txWrite elems s = (a, { s with trace := s.trace ++ [.txWrite elems], writeAnswers := ws }) :=
  drawWrite_scripted (record (.txWrite elems) s) a ws h

theorem initTransport_of_setup_usbErr {s : State} {ws : List WriteAnswer} (h : s.writeAnswers = .usbErr :: ws) :
    initTransport s = initResult ⟨.usb, [.num 1]⟩
      { s with trace := s.trace ++ [.setup], writeAnswers := ws, transportDead := true } := by
  rw [initTransport, txSetup_scripted h]

theorem initTransport_of_write_usbErr {s : State} {ws : List WriteAnswer}
    (h : s.writeAnswers = .ok :: .usbErr :: ws) :
    initTransport s = initResult ⟨.usb, [.num 1]⟩
      { s with
        trace := s.trace ++ [.setup] ++ [.txWrite [.gpio s.level s.dir]]
        writeAnswers := ws
        transportDead := true } := by
  rw [initTransport, txSetup_scripted h]
  dsimp only
  rw [txWrite_scripted _ rfl]

theorem initTransport_of_ok {s : State} {ws : List WriteAnswer} (h : s.writeAnswers = .ok :: .ok :: ws) :
    initTransport s = initResult ⟨.ok, []⟩
      { s with trace := s.trace ++ [.setup] ++ [.txWrite [.gpio s.level s.dir]], writeAnswers := ws } := by
  rw [initTransport, txSetup_scripted h]
  dsimp only
  rw [txWrite_scripted _ rfl]

/-! ## The pins of INIT -/

theorem initEngine_of_sharedPin (p : Pin) (od : Bool) (s : State) :
    initEngine p (some p) od s = .refused .pullupPinIsDataPin := by
  rw [initEngine, if_pos rfl]

theorem initEngine_of_absentPin {s : State} {p : Pin} {q : Option Pin} (od : Bool) (hpq : q ≠ some p)
    (h : pinExists s.params p = false ∨ ∃ r, q = some r ∧ pinExists s.params r = false) :
    initEngine p q od s = .refused .noSuchPin := by
  rw [initEngine, if_neg hpq, if_pos]
  rcases h with h | ⟨r, rfl, h⟩ <;> simp [h]

/-- The session that INIT creates before its transport traffic: reset values, in the environment of the session that it
replaces (log entry 4). -/
def newSession (p : Pin) (q : Option Pin) (od : Bool) (s : State) : State :=
  { State.created s.params p q od with
    hostQueue := s.hostQueue
    writeAnswers := s.writeAnswers
    readAnswers := s.readAnswers
    samples := s.samples
    freeDraws := s.freeDraws }

theorem initEngine_of_pins {s : State} {p : Pin} {q : Option Pin} (od : Bool) (hpq : q ≠ some p)
    (hp : pinExists s.params p = true) (hr : ∀ r, q = some r → pinExists s.params r = true) :
    initEngine p q od s = .next (initTransport (newSession p q od s)) := by
  rw [initEngine, if_neg hpq, if_neg]
  · rfl
  · cases q with
    | none => simp [hp]
    | some r => simp [hp, hr r rfl]

theorem step_of_init_pins {s : State} {p : Pin} {q : Option Pin} {od : Bool} {rest : List HostInput}
    (hq : s.hostQueue = .init p q od :: rest) (hpq : q ≠ some p) (hp : pinExists s.params p = true)
    (hr : ∀ r, q = some r → pinExists s.params r = true) :
    step s = .next (initTransport (newSession p q od { s with hostQueue := rest })) :=
  (step_of_init hq).trans (initEngine_of_pins od hpq hp hr)

/-! ## The statements -/

/-- Settles O7: both calls succeed on the new session, whose GPIO words have the bits of 10_state.md R31. -/
theorem initCreatesSession : Obligations.InitCreatesSession := by
  intro s p q od rest ws hq hpq hp hr hw
  refine ⟨initialLevel p, initialDir q, getLsbD_initialLevel p, getLsbD_initialDir q, ?_⟩
  exact (step_of_init_pins hq hpq hp hr).trans (congrArg Host.Outcome.next (initTransport_of_ok hw))

/-- Settles O8: INIT checks its pins before it creates a session, and the call that fails is its last. -/
theorem failedInitLeavesDeadTransport : Obligations.FailedInitLeavesDeadTransport := by
  intro s p q od rest ws hq
  refine ⟨fun hshared => ?_, fun hpq habsent => ?_, fun hpq hp hr => ⟨fun hw => ?_, fun hw => ?_⟩⟩
  · subst hshared
    exact (step_of_init hq).trans (initEngine_of_sharedPin p od _)
  · exact (step_of_init hq).trans (initEngine_of_absentPin od hpq habsent)
  · exact (step_of_init_pins hq hpq hp hr).trans (congrArg Host.Outcome.next (initTransport_of_setup_usbErr hw))
  · exact (step_of_init_pins hq hpq hp hr).trans (congrArg Host.Outcome.next (initTransport_of_write_usbErr hw))

/-- The default INIT creates the reset state (95_test_vectors.md section 0). -/
theorem step_default_init (rest : List HostInput) :
    step { State.reset with hostQueue := .init 0#4 none false :: rest, writeAnswers := [.ok, .ok] } =
      .next { State.reset with hostQueue := rest } := by
  exact (step_of_init_pins (p := 0#4) (q := none) rfl nofun rfl nofun).trans
    (congrArg Host.Outcome.next (initTransport_of_ok rfl))

/-- Settles O9: the reset state is what an INIT creates, and every INIT creates a state that meets the invariants. -/
theorem resetIsDefaultInitAndMeetsInvariants : Obligations.ResetIsDefaultInitAndMeetsInvariants := by
  have created := (step_of_init rfl).symm.trans (step_default_init [])
  exact ⟨step_default_init, initEngine_inv created, initEngine_traceInv created⟩

end Sys2Proof.Machine
end
